-- ==== Sys2Proof/Word.lean ====
section
/-! DEFINITION. The word types of the OT3220: bytes, two-byte fields, station numbers and moments. -/

namespace Sys2Proof

/-- A byte of a frame, of the configuration record or of a local port answer. -/
abbrev Byte := BitVec 8

/-- A two-byte field: epoch, TSN, digest, and a quantity as it stands in a frame or a request. -/
abbrev Half := BitVec 16

/-- A station number, 0 to 31 (00_scope.md 4.1). -/
abbrev StationNo := Fin 32

/-- A moment or a length of time in half microseconds, the half cell of the share line at
1000 kbit/s (log 2). -/
abbrev Time := Nat

end Sys2Proof
end

