-- ==== Sys2Proof/Syntax.lean ====
section
/-! DEFINITION. The commands of the block: one constructor of `Instr` for each row of
spec/opcode_table.json, with the operands the manual's text gives the row. -/

namespace Sys2Proof

/-- One bit cell of the share line: the level of its two halves, `true` for driven (R138). -/
structure Cell where
  first  : Bool
  second : Bool
deriving DecidableEq, Repr

/-- The eight frame kinds (R119). -/
inductive Kind where
  | beacon | demand | claim | release | clear | slow | recount | report
deriving DecidableEq, Repr

/-- The sixteen bytes of the configuration memory, in memory order (R193, section 11.3). -/
structure ConfigRecord where
  magicHi    : Byte
  magicLo    : Byte
  budgetHi   : Byte
  budgetLo   : Byte
  capHi      : Byte
  capLo      : Byte
  weight     : Byte
  rateCode   : Byte
  silenceExp : Byte
  windowExp  : Byte
  slowExp    : Byte
  yieldExp   : Byte
  spare0     : Byte
  spare1     : Byte
  spare2     : Byte
  check      : Byte
deriving DecidableEq, Repr

/-- The operations and events of spec/opcode_table.json, in its order. -/
inductive Instr where
  /-- POWER_RESET: RESETN goes low, or VDD powers up (R191). -/
  | powerReset
  /-- RESET_RELEASE: RESETN returns high with SN4..SN0 at these levels (R192, R197). -/
  | resetRelease (straps : BitVec 5)
  /-- READ_ATTEMPT_COMPLETE: a read attempt ends with sixteen bytes (R193). -/
  | readAttemptComplete (bytes : ConfigRecord)
  /-- READ_ATTEMPT_FAILED: a missing acknowledge, or SDA low at a start (R193). -/
  | readAttemptFailed
  /-- SCL_HOLD_TIMEOUT: the memory holds SCL low for more than 1 ms (R193). -/
  | sclHoldTimeout
  /-- READ_RETRY_WAIT_EXPIRY: the 1 ms wait after a failed attempt ends (R193). -/
  | readRetryWaitExpiry
  /-- LINE_STARTUP_SETTLED: 2 bit times of released line after start-up (R137). -/
  | lineStartupSettled
  /-- TRANSACTION_BEGIN: CSN falls (R167). -/
  | transactionBegin
  /-- TRANSACTION_END: CSN rises (R167, R169). -/
  | transactionEnd
  /-- UNKNOWN_REQUEST: a code byte that section 9.3 does not list is complete (R171). -/
  | unknownRequest (code : Byte)
  /-- STATUS (R174). -/
  | status
  /-- SET_DEMAND(v) (R48). -/
  | setDemand (v : Half)
  /-- CONFIRM(v) (R49). -/
  | confirm (v : Half)
  /-- CLEAR_CUTOFF (R66). -/
  | clearCutoff
  /-- TAKE_SNAPSHOT (R28, R175). -/
  | takeSnapshot
  /-- READ_SUMMARY (R176). -/
  | readSummary
  /-- READ_ENTRY(n), n one byte (R177). -/
  | readEntry (n : Byte)
  /-- READ_EVENTS (R178). -/
  | readEvents
  /-- CLEAR_EVENTS(mask) (R185). -/
  | clearEvents (mask : Half)
  /-- SET_MASK(mask) (R186). -/
  | setMask (mask : Half)
  /-- READ_COUNTERS (R189). -/
  | readCounters
  /-- CLEAR_COUNTERS (R190). -/
  | clearCounters
  /-- LEAVE (R92). -/
  | leave
  /-- JOIN (R116). -/
  | join
  /-- RESTART (R180, R198). -/
  | restart
  /-- READ_CONFIG (R181). -/
  | readConfig
  /-- LINE_ACTIVITY_START: the released line becomes driven (R138). -/
  | lineActivityStart
  /-- FRAME_RECEIVED: an activity that the station did not send ends at an end of frame; `cells` are
  its cells up to the last bit, without the two released cells that end it (R129, R139). -/
  | frameReceived (cells : List Cell)
  /-- TAKE_FRAME: the idle Table Unit takes the oldest ring entry (R10). -/
  | takeFrame
  /-- ENGINE_RUN_COMPLETE (R40). -/
  | engineRunComplete
  /-- WINDOW_TIMER_EXPIRY (R82). -/
  | windowTimerExpiry
  /-- CLOSE_BEGIN (R83). -/
  | closeBegin
  /-- LISTEN_TIMER_EXPIRY (R103). -/
  | listenTimerExpiry
  /-- END_OF_LISTENING (R103). -/
  | endOfListening
  /-- SNAPSHOT_TAKEN (R28). -/
  | snapshotTaken
  /-- CHECK_TIMER_EXPIRY (R90). -/
  | checkTimerExpiry
  /-- GUARD_TIMER_EXPIRY (R75). -/
  | guardTimerExpiry
  /-- BEACON_TIMER_EXPIRY (R106). -/
  | beaconTimerExpiry
  /-- MEMBER_SILENT: the age of member `n` rises above T_silence (R2). -/
  | memberSilent (n : StationNo)
  /-- ISOLATION_HOLD_EXPIRY (R111). -/
  | isolationHoldExpiry
  /-- GHOST_TIMER_EXPIRY: the timer of ghost `n` reaches 0 (R26). -/
  | ghostTimerExpiry (n : StationNo)
  /-- LOWER_REQUEST_DEADLINE (R63). -/
  | lowerRequestDeadline
  /-- OWN_SLOW_TIMER_EXPIRY (R164). -/
  | ownSlowTimerExpiry
  /-- DEFERRAL_EXPIRY (R165). -/
  | deferralExpiry
  /-- SLOT_START (R148). -/
  | slotStart
  /-- BACKOFF_SLOT_EXPIRY: a backoff slot of the waiting frame of kind `k` passes (R143). -/
  | backoffSlotExpiry (k : Kind)
  /-- READ_BACK_MISMATCH (R140). -/
  | readBackMismatch
  /-- END_OF_JAM (R141). -/
  | endOfJam
  /-- OWN_FRAME_COMPLETION (R149). -/
  | ownFrameCompletion
  /-- LINE_STATE_JAM (R141). -/
  | lineStateJam
  /-- JAM_DRIVE_END (R140). -/
  | jamDriveEnd
  /-- LAST_DATA_BYTE_SENT (R170). -/
  | lastDataByteSent
deriving DecidableEq, Repr

end Sys2Proof
end

