-- ==== Sys2Proof/Config.lean ====
section
/-! DEFINITION. The free values of the model: what the manual leaves open and the machine still goes on with. -/

namespace Sys2Proof

/-- The backoff generator of R137: draw number `i` since the POWER reset of the station whose straps
gave `station`. R137 gives nothing of its sequence ("each draw may be any value of its range"), so it
has no body; R143 bounds each use of it (`Machine.boundedDraw`). Log 6. -/
opaque Config.backoffDraw (station : StationNo) (i : Nat) : Nat

end Sys2Proof
end

