-- ==== Sys2Proof/Machine/State.lean ====
section
/-! DEFINITION. The state of the OT3220, block by block as 00_scope.md section 3.2 lists the blocks, and
the state after a POWER reset. -/

namespace Sys2Proof.Machine

/-! ### Frames (06_frames.md) -/

/-- The eight recount causes (section 4.2). -/
inductive Cause where
  | join | mismatch | behind | merge | silence | lost | roster | leave
deriving DecidableEq, Repr

/-- The kind and payload of a frame on the line (R119 to R124). -/
inductive Body where
  | beacon (grant demand : Half) (roster : BitVec 32) (digest : Half)
  | demand (v : Half)
  | claim (amount : Half)
  | release (v : Half)
  | clear (n : StationNo)
  | slow
  | recount (target : Half) (cause : Cause)
  | report (target : Half) (weight : BitVec 4) (demand grant digest : Half)
deriving DecidableEq, Repr

/-- A frame as sent or received: header and payload (R117, R118). -/
structure Frame where
  sender : StationNo
  epoch  : Half
  tsn    : Half
  body   : Body
deriving DecidableEq, Repr

/-- What a slot of the Transmit Queue fixes at queueing: the kind and its payload; a BEACON's class
(`close` for class 1) in place of a payload (R144). -/
inductive Payload where
  | beacon (close : Bool)
  | demand (v : Half)
  | claim (amount : Half)
  | release (v : Half)
  | clear (n : StationNo)
  | slow
  | recount (target : Half) (cause : Cause)
  | report (target : Half) (weight : BitVec 4) (demand grant digest : Half)
deriving DecidableEq, Repr

/-! ### The Configuration Loader (11) -/

/-- Where the read of the configuration memory stands (R193). -/
inductive Reading where
  | off
  | attempt
  | waiting (till : Time)
deriving DecidableEq, Repr

/-- The Configuration Loader (R192). -/
structure Loader where
  stationNumber : StationNo
  record        : Option ConfigRecord
  recordValid   : Bool
  digest        : Option Half
  attempts      : Nat
  reading       : Reading
deriving DecidableEq, Repr

/-! ### The Line Interface (07) -/

/-- Off; waiting at start for 2 bit times of released line; or one of the three line states (R137). -/
inductive LineState where
  | off | starting | idle | busy | jam
deriving DecidableEq, Repr

/-- The own transmission: none; the frame formed at its start (R126); driving the jam (R140); the jam
driven, the end of jam still to come. -/
inductive Tx where
  | none
  | sending (frame : Frame)
  | jamming (till : Time)
  | jammed
deriving DecidableEq, Repr

/-- The Line Interface (R137). `since` is the moment the present line state began, so that in IDLE the
idle time is `now` less `since`. `rateCode` is the code of the bit rate. `draws` counts the draws of the
backoff generator since the POWER reset (log 6). -/
structure Line where
  state    : LineState
  since    : Time
  rateCode : BitVec 2
  tx       : Tx
  draws    : Nat
deriving DecidableEq, Repr

/-! ### The Transmit Queue (07) -/

inductive SlotState where
  | queued | onLine | backoff
deriving DecidableEq, Repr

/-- A slot in use (R144). `flushed`: a flush reached it while ON_LINE (R153). `counted`: the backoff
slots counted in the present idle stretch (R143). -/
structure Slot where
  payload     : Payload
  state       : SlotState
  attempts    : Nat
  backoffLeft : Nat
  age         : Time
  followOn    : Option Payload
  finishing   : Bool
  flushed     : Bool
  counted     : Nat
deriving DecidableEq, Repr

/-! ### The Receive Ring (08) -/

/-- A received frame with its own flag (R155, R133). -/
structure RingEntry where
  frame : Frame
  own   : Bool
deriving DecidableEq, Repr

inductive FlowHold where
  | off | sending | holding
deriving DecidableEq, Repr

/-- The Receive Ring (R155). -/
structure Ring where
  entries   : List RingEntry
  lost      : Bool
  flow      : FlowHold
  slowTimer : Option Time
  deferral  : Option Time
deriving DecidableEq, Repr

/-! ### The Table Unit (01) -/

/-- The fields of a MEMBER entry (R1). `since` is the moment the age was last set to 0 (log 22). -/
structure Member where
  weight      : Nat
  demand      : Nat
  grant       : Nat
  entitlement : Nat
  since       : Time
  silent      : Bool
  confirmed   : Bool
deriving DecidableEq, Repr

/-- The fields of a GHOST entry (R1, R26). `timer` is the moment the ghost timer runs out; an expired
ghost has none (log 22). -/
structure Ghost where
  grant : Nat
  timer : Option Time
deriving DecidableEq, Repr

inductive Entry where
  | absent
  | member (m : Member)
  | ghost (g : Ghost)
deriving DecidableEq, Repr

/-- An entry as a snapshot copies it: the age and the ghost time left are milliseconds (R29). -/
inductive EntryView where
  | absent
  | member (weight demand grant entitlement age : Nat) (silent confirmed : Bool)
  | ghost (grant left : Nat)
deriving DecidableEq, Repr

/-- The snapshot buffer (R29). -/
structure Snapshot where
  entries : List EntryView
  epoch   : Half
  tsn     : Half
  roster  : List StationNo
  ghosts  : List StationNo
  sum     : Nat
  free    : Nat
  isOver  : Bool
  rotor   : Nat
  starved : List StationNo
  passes  : Nat
deriving DecidableEq, Repr

/-- The Table Unit. Roster, ghost set, sum, free, OVER and rotor start follow from the entries and the
epoch (R3 to R5) and are functions of `Table` in Machine/TableOps.lean. -/
structure Table where
  entries     : List Entry
  epoch       : Half
  tsn         : Half
  suspect     : Bool
  diverged    : Bool
  entValid    : Bool
  starved     : List StationNo
  snapshot    : Option Snapshot
  snapNumber  : Nat
  snapPending : Bool
deriving DecidableEq, Repr

/-! ### The Share Engine (02) -/

/-- What a run was started for (R31). -/
inductive RunWork where
  | demand | clear | close | loneFormation
deriving DecidableEq, Repr

/-- A member of the set S of a run, with its inputs (R32). -/
structure Sharer where
  station : StationNo
  weight  : Nat
  demand  : Nat
deriving DecidableEq, Repr

/-- A run in progress with its working values S, R, entitlements found and passes made (R30). -/
structure Run where
  work      : RunWork
  started   : Time
  rotor     : Nat
  share     : List Sharer
  remaining : Nat
  found     : List (StationNo × Nat)
  passes    : Nat
deriving DecidableEq, Repr

/-- The Share Engine: IDLE without a run, RUNNING with one (R30). -/
structure Engine where
  run        : Option Run
  lastPasses : Nat
deriving DecidableEq, Repr

/-! ### Grant Control (03) -/

inductive LowerCause where
  | yield | isolate
deriving DecidableEq, Repr

/-- The lower request (R59). -/
structure LowerRequest where
  cause    : LowerCause
  target   : Nat
  deadline : Time
deriving DecidableEq, Repr

/-- What the last notice of R24 told Grant Control, by which it works between notices (R47, R43). -/
structure Notice where
  entitlement : Nat
  starved     : List StationNo
  isOver      : Bool
deriving DecidableEq, Repr

/-- Grant Control (R47): `demand` is H, `applied` is A, and `sharedDemand` is the own recorded demand from which the
entitlements last heard were computed, beyond which nothing is claimed until the engine has run again (R50). -/
structure Grant where
  demand  : Nat
  applied : Nat
  lower   : Option LowerRequest
  cutoff  : Bool
  backoff : Bool
  seen    : Notice
  sharedDemand : Nat
deriving DecidableEq, Repr

/-! ### The Recount Controller (04) -/

inductive Phase where
  | none | window | check
deriving DecidableEq, Repr

/-- A record of the report list (R81). -/
structure ReportRecord where
  station : StationNo
  weight  : Nat
  demand  : Nat
  grant   : Nat
deriving DecidableEq, Repr

/-- The own report values (R69, R79). -/
structure OwnReport where
  weight : Nat
  demand : Nat
  grant  : Nat
deriving DecidableEq, Repr

/-- The set of pending causes (R69, R74). -/
structure PendingCauses where
  mismatch : Bool
  merge    : Bool
  silence  : Bool
deriving DecidableEq, Repr

/-- The Recount Controller (R69). -/
structure Recount where
  phase         : Phase
  requested     : Bool
  target        : Option Half
  highest       : Option Half
  reports       : List ReportRecord
  ownReport     : Option OwnReport
  ownSent       : Bool
  closeWaiting  : Bool
  windowTimer   : Option Time
  checkTimer    : Option Time
  guardTimer    : Option Time
  causes        : PendingCauses
  lastNonMember : Option Time
  count         : Nat
deriving DecidableEq, Repr

/-! ### The Station Controller (05) -/

inductive StationState where
  | loading | fault | listen | member | isolated | barred | parked
deriving DecidableEq, Repr

/-- The Station Controller (R97). -/
structure Station where
  state         : StationState
  heard         : Bool
  listenTimer   : Option Time
  listenWaiting : Bool
  beaconTimer   : Option Time
  abandonments  : Nat
  holdTimer     : Option Time
deriving DecidableEq, Repr

/-! ### The Local Port (09) -/

inductive PortState where
  | idle | collecting | answering | spent
deriving DecidableEq, Repr

/-- The statuses of R171. -/
inductive Status where
  | ok | range | state | noEffect | notReady | unknown
deriving DecidableEq, Repr

/-- An answer, fixed when the request was taken (R168); `arguments` is the number of argument bytes the
request carried. -/
structure Answer where
  arguments : Nat
  status    : Status
  data      : List Byte
deriving DecidableEq, Repr

/-- The Local Port (R170), with the bytes it sends in the present transaction (R167, R168). -/
structure Port where
  state    : PortState
  greeting : Option Byte
  answer   : Option Answer
deriving DecidableEq, Repr

/-! ### The Event Unit (10) -/

/-- The thirteen events, in order of priority (R183). -/
inductive Event where
  | barred | configFault | cutoff | isolated | lowerRequest | ringOverflow | recountStarted
  | recountSettled | lowerWithdrawn | grantRaised | claimShort | abandoned | frameError
deriving DecidableEq, Repr

/-- The seven counters, in the order of R189. -/
structure Counters where
  frameErrors   : Nat
  staleFrames   : Nat
  mismatches    : Nat
  collisions    : Nat
  abandoned     : Nat
  ringOverflows : Nat
  recounts      : Nat
deriving DecidableEq, Repr

/-- The Event Unit (R183): the event of rank k has bit k - 1 of the flags and of the mask. -/
structure EventUnit where
  flags    : BitVec 13
  mask     : BitVec 13
  counters : Counters
deriving DecidableEq, Repr

/-! ### The whole state -/

/-- The state of the block. `now` is the running time (log 2); `resetLow` and `csnHigh` are the levels of
RESETN and CSN; `pending` is the queue of the commands that wait, first in, first out. -/
structure State where
  now      : Time
  resetLow : Bool
  csnHigh  : Bool
  loader   : Loader
  line     : Line
  queue    : List Slot
  ring     : Ring
  table    : Table
  engine   : Engine
  grant    : Grant
  recount  : Recount
  station  : Station
  port     : Port
  events   : EventUnit
  pending  : List Instr
deriving DecidableEq, Repr

/-- The faults of a step. The manual gives every command an effect in every state, and stops the part
nowhere (its FAULT is a station state, R197), so there is none. -/
inductive Fault where
deriving DecidableEq, Repr

/-- The refusals of a step. -/
inductive Refusal where
  /-- Raised by `exec` for a command that has no meaning yet; safe. No arm of `exec` raises it. -/
  | notModelled (mnemonic : String)
deriving DecidableEq, Repr

/-! ### The values after a POWER reset -/

/-- R9: a cleared table; R29: no snapshot. -/
def Table.reset : Table where
  entries     := List.replicate 32 .absent
  epoch       := 0
  tsn         := 0
  suspect     := false
  diverged    := false
  entValid    := true
  starved     := []
  snapshot    := none
  snapNumber  := 0
  snapPending := false

/-- What Grant Control has been told of a cleared table (log 7). -/
def Notice.reset : Notice where
  entitlement := 0
  starved     := []
  isOver      := false

/-- R47, column POWER reset; `sharedDemand` is that of a cleared table (log 7). -/
def Grant.reset : Grant where
  demand  := 0
  applied := 0
  lower   := none
  cutoff  := true
  backoff := false
  seen    := Notice.reset
  sharedDemand := 0

/-- R69, last column. -/
def Recount.reset : Recount where
  phase         := .none
  requested     := false
  target        := none
  highest       := none
  reports       := []
  ownReport     := none
  ownSent       := false
  closeWaiting  := false
  windowTimer   := none
  checkTimer    := none
  guardTimer    := none
  causes        := ⟨false, false, false⟩
  lastNonMember := none
  count         := 0

/-- R97, column POWER reset. -/
def Station.reset : Station where
  state         := .loading
  heard         := false
  listenTimer   := none
  listenWaiting := false
  beaconTimer   := none
  abandonments  := 0
  holdTimer     := none

/-- R155, column POWER reset. -/
def Ring.reset : Ring where
  entries   := []
  lost      := false
  flow      := .off
  slowTimer := none
  deferral  := none

/-- R137: off after a POWER reset. -/
def Line.reset : Line where
  state    := .off
  since    := 0
  rateCode := 0
  tx       := .none
  draws    := 0

/-- R192, column POWER reset; the straps are sampled later. -/
def Loader.reset : Loader where
  stationNumber := 0
  record        := none
  recordValid   := false
  digest        := none
  attempts      := 0
  reading       := .off

/-- R170: SPENT after a POWER reset. -/
def Port.reset : Port where
  state    := .spent
  greeting := none
  answer   := none

/-- R183, R189: everything clear. -/
def EventUnit.reset : EventUnit where
  flags    := 0
  mask     := 0
  counters := ⟨0, 0, 0, 0, 0, 0, 0⟩

/-- R30: IDLE, last pass count 0. -/
def Engine.reset : Engine where
  run        := none
  lastPasses := 0

/-- The machine in its POWER reset, RESETN low, before RESET_RELEASE (R191, R197). -/
def State.reset : State where
  now      := 0
  resetLow := true
  csnHigh  := true
  loader   := Loader.reset
  line     := Line.reset
  queue    := []
  ring     := Ring.reset
  table    := Table.reset
  engine   := Engine.reset
  grant    := Grant.reset
  recount  := Recount.reset
  station  := Station.reset
  port     := Port.reset
  events   := EventUnit.reset
  pending  := []

end Sys2Proof.Machine
end

