-- ==== Sys2Proof/Machine/Ops.lean ====
section
/-! DEFINITION. Named operations over the whole state: one update per block, the running time, the values
the configuration record gives, the comparison of epochs. -/

namespace Sys2Proof.Machine

/-! ### One update per block -/

def State.withNow (s : State) (t : Time) : State := { s with now := t }
def State.withLoader (s : State) (x : Loader) : State := { s with loader := x }
def State.withLine (s : State) (x : Line) : State := { s with line := x }
def State.withQueue (s : State) (x : List Slot) : State := { s with queue := x }
def State.withRing (s : State) (x : Ring) : State := { s with ring := x }
def State.withTable (s : State) (x : Table) : State := { s with table := x }
def State.withEngine (s : State) (x : Engine) : State := { s with engine := x }
def State.withGrant (s : State) (x : Grant) : State := { s with grant := x }
def State.withRecount (s : State) (x : Recount) : State := { s with recount := x }
def State.withStation (s : State) (x : Station) : State := { s with station := x }
def State.withPort (s : State) (x : Port) : State := { s with port := x }
def State.withEvents (s : State) (x : EventUnit) : State := { s with events := x }
def State.withPending (s : State) (x : List Instr) : State := { s with pending := x }

/-! ### Time (log 2) -/

/-- A millisecond in units of `Time`. -/
def ticksPerMs : Nat := 2000

/-- A microsecond in units of `Time`. -/
def ticksPerUs : Nat := 2

/-- `n` milliseconds. -/
def ms (n : Nat) : Time := n * ticksPerMs

/-- Whole milliseconds from moment `t` to moment `u`, rounded down. -/
def msBetween (t u : Time) : Nat := (u - t) / ticksPerMs

/-- Milliseconds left from `now` until moment `t` of a timer that counts down one for each millisecond
that passes: the length less the whole milliseconds gone (R26). -/
def msLeft (now t : Time) : Nat := (t - now + (ticksPerMs - 1)) / ticksPerMs

/-- The running time reaches moment `t`; it never goes back (log 4). -/
def State.reach (s : State) (t : Time) : State := s.withNow (max s.now t)

/-- The moment `n` milliseconds from now. -/
def State.after (s : State) (n : Nat) : Time := s.now + ms n

/-! ### What the configuration record gives (R194, R195) -/

/-- Two bytes, most significant first (00_scope.md 4.5). -/
def beNat (hi lo : Byte) : Nat := hi.toNat * 256 + lo.toNat

/-- A record of zeros: what the accessors below read before a record is held. No block uses them then,
since the station is in LOADING or FAULT. -/
def ConfigRecord.zeros : ConfigRecord := ⟨0, 0, 0, 0, 0, 0, 0, 0, 0, 0, 0, 0, 0, 0, 0, 0⟩

/-- The record the Loader holds. -/
def State.config (s : State) : ConfigRecord := s.loader.record.getD ConfigRecord.zeros

/-- The shared budget B. -/
def State.budget (s : State) : Nat := beNat s.config.budgetHi s.config.budgetLo

/-- The station cap: the configured cap, or B where that is 0 (R47, R194). -/
def State.stationCap (s : State) : Nat :=
  if beNat s.config.capHi s.config.capLo = 0 then s.budget
  else beNat s.config.capHi s.config.capLo

/-- The configured weight. -/
def State.weight (s : State) : Nat := s.config.weight.toNat

/-- The own configuration digest. -/
def State.digest (s : State) : Half := s.loader.digest.getD 0

/-- The own station number. -/
def State.own (s : State) : StationNo := s.loader.stationNumber

/-! Timer lengths in milliseconds (R195). -/

def State.tSilence (s : State) : Nat := 2 ^ s.config.silenceExp.toNat
def State.tListen (s : State) : Nat := 2 ^ s.config.silenceExp.toNat
def State.tBeacon (s : State) : Nat := 2 ^ (s.config.silenceExp.toNat - 2)
def State.tWindow (s : State) : Nat := 2 ^ s.config.windowExp.toNat
def State.tGuard (s : State) : Nat := 2 ^ s.config.windowExp.toNat
def State.tCheck (s : State) : Nat := 2 ^ s.config.windowExp.toNat
def State.tSlow (s : State) : Nat := 2 ^ s.config.slowExp.toNat
def State.tYield (s : State) : Nat := 2 ^ s.config.yieldExp.toNat
def State.tIsoHold (s : State) : Nat := 2 ^ (s.config.silenceExp.toNat + 1)
def State.tGhost (s : State) : Nat := s.tIsoHold + s.tYield

/-! ### Epochs (R3) -/

/-- Epoch `x` is later than epoch `y`: (x - y) mod 65536 lies in 1 to 32768. -/
abbrev laterEpoch (x y : Half) : Prop := 1 ≤ (x - y).toNat ∧ (x - y).toNat ≤ 32768

/-- Epoch `x` is earlier than epoch `y`: (y - x) mod 65536 lies in 1 to 32767. -/
abbrev earlierEpoch (x y : Half) : Prop := 1 ≤ (y - x).toNat ∧ (y - x).toNat ≤ 32767

/-! ### Station states -/

/-- A MEMBER station in phase NONE (00_scope.md 3.5). -/
abbrev State.settled (s : State) : Prop := s.station.state = .member ∧ s.recount.phase = .none

/-- A MEMBER station in phase NONE or CHECK. -/
abbrev State.working (s : State) : Prop := s.station.state = .member ∧ s.recount.phase ≠ .window

/-- LISTEN or MEMBER: the states in which the station takes part. -/
abbrev State.takesPart (s : State) : Prop :=
  s.station.state = .listen ∨ s.station.state = .member

end Sys2Proof.Machine
end

