-- ==== Sys2Proof/Machine/Flags.lean ====
section
/-! DEFINITION. The Event Unit (10_events_counters_and_pins.md): events, mask, top event, counters, and
the pins that follow them. -/

namespace Sys2Proof.Machine

/-- The priority rank of an event (R183). -/
def Event.rank : Event → Nat
  | .barred => 1
  | .configFault => 2
  | .cutoff => 3
  | .isolated => 4
  | .lowerRequest => 5
  | .ringOverflow => 6
  | .recountStarted => 7
  | .recountSettled => 8
  | .lowerWithdrawn => 9
  | .grantRaised => 10
  | .claimShort => 11
  | .abandoned => 12
  | .frameError => 13

/-- The bit of an event of rank k in the flags and the mask has the weight 2^(k-1) (R183). -/
def Event.bit (e : Event) : BitVec 13 := 1#13 <<< (e.rank - 1)

/-- A block raises an event: its flag is set, masked or not (R184). -/
def State.raise (s : State) (e : Event) : State :=
  s.withEvents { s.events with flags := s.events.flags ||| e.bit }

/-- A counter rises by 1 and stays at 65535 (R189). -/
def bump (n : Nat) : Nat := min 65535 (n + 1)

def State.withCounters (s : State) (c : Counters) : State :=
  s.withEvents { s.events with counters := c }

def State.countFrameError (s : State) : State :=
  s.withCounters { s.events.counters with frameErrors := bump s.events.counters.frameErrors }
def State.countStale (s : State) : State :=
  s.withCounters { s.events.counters with staleFrames := bump s.events.counters.staleFrames }
def State.countMismatch (s : State) : State :=
  s.withCounters { s.events.counters with mismatches := bump s.events.counters.mismatches }
def State.countCollision (s : State) : State :=
  s.withCounters { s.events.counters with collisions := bump s.events.counters.collisions }
def State.countAbandoned (s : State) : State :=
  s.withCounters { s.events.counters with abandoned := bump s.events.counters.abandoned }
def State.countRingOverflow (s : State) : State :=
  s.withCounters { s.events.counters with ringOverflows := bump s.events.counters.ringOverflows }
def State.countRecount (s : State) : State :=
  s.withCounters { s.events.counters with recounts := bump s.events.counters.recounts }

/-- The rank of the lowest bit set among bits `k - 1` and up, of `n` bits; 0 for none. -/
def lowestRank (v : BitVec 13) : Nat → Nat → Nat
  | 0, _ => 0
  | n + 1, k => if v.getLsbD (k - 1) then k else lowestRank v n (k + 1)

/-- The top event: the lowest rank whose flag is set and whose mask bit is clear, 0 for none (R187). -/
def EventUnit.top (u : EventUnit) : Nat := lowestRank (u.flags &&& ~~~u.mask) 13 1

/-! ### Pins -/

/-- ALERTN is driven low while an unmasked flag is set (R188). -/
def State.alertnLow (s : State) : Bool := s.events.flags &&& ~~~s.events.mask != 0

/-- The CUTOFF pin is high while CUTOFF is asserted and while RESETN is low (R65, R191). -/
def State.cutoffHigh (s : State) : Bool := s.resetLow || s.grant.cutoff

/-- CFG_SCL is released for certain: while RESETN is low, and whenever no read attempt is in progress
(R191, R193). During an attempt the part clocks it, and the memory may hold it low (Machine/ConfigBus.lean). -/
def State.cfgSclReleased (s : State) : Bool := s.resetLow || decide (s.loader.reading ≠ .attempt)

/-- CFG_SDA is released for certain, at the same times; what the part does with it during an attempt is
`State.sdaReleasedIn` (R191, R193). -/
def State.cfgSdaReleased (s : State) : Bool := s.resetLow || decide (s.loader.reading ≠ .attempt)

/-- MISO is driven while CSN is low, the part being out of reset (R167, R191). -/
def State.misoDriven (s : State) : Bool := !s.csnHigh && !s.resetLow

end Sys2Proof.Machine
end

