-- ==== Sys2Proof/Machine/TableOps.lean ====
section
/-! DEFINITION. The budget table: its entries, the values that follow from them (R3 to R6), its clear
(R9), its age and ghost time, and the snapshot (R28, R29). -/

namespace Sys2Proof.Machine

/-- The 32 station numbers in ascending order. -/
def stations : List StationNo :=
  [0, 1, 2, 3, 4, 5, 6, 7, 8, 9, 10, 11, 12, 13, 14, 15,
   16, 17, 18, 19, 20, 21, 22, 23, 24, 25, 26, 27, 28, 29, 30, 31]

/-! ### Entries (R1) -/

def Table.entryAt (t : Table) (n : StationNo) : Entry := t.entries.getD n.val .absent

def Table.setEntry (t : Table) (n : StationNo) (e : Entry) : Table :=
  { t with entries := t.entries.set n.val e }

/-- The member fields of entry `n`, if it has status MEMBER. -/
def Table.member? (t : Table) (n : StationNo) : Option Member :=
  match t.entryAt n with
  | .member m => some m
  | _ => none

/-- The ghost fields of entry `n`, if it has status GHOST. -/
def Table.ghost? (t : Table) (n : StationNo) : Option Ghost :=
  match t.entryAt n with
  | .ghost g => some g
  | _ => none

def Table.isMember (t : Table) (n : StationNo) : Bool := (t.member? n).isSome
def Table.isGhost (t : Table) (n : StationNo) : Bool := (t.ghost? n).isSome

/-- Change the member fields of entry `n`; an entry that is no member stays as it is. -/
def Table.updateMember (t : Table) (n : StationNo) (f : Member → Member) : Table :=
  match t.entryAt n with
  | .member m => t.setEntry n (.member (f m))
  | _ => t

/-- Change the member fields of every MEMBER entry. -/
def Table.mapMembers (t : Table) (f : StationNo → Member → Member) : Table :=
  { t with entries := stations.map fun n =>
      match t.entryAt n with
      | .member m => .member (f n m)
      | e => e }

/-! ### Values that follow from the entries (R3 to R6) -/

/-- The roster (R4). -/
def Table.roster (t : Table) : List StationNo := stations.filter t.isMember

/-- The ghost set (R4). -/
def Table.ghosts (t : Table) : List StationNo := stations.filter t.isGhost

/-- A set of stations as the 32-bit vector of R135. -/
def vectorOf (l : List StationNo) : BitVec 32 := l.foldr (fun n v => v ||| (1#32 <<< n.val)) 0

/-- The units an entry holds: a member's grant, a ghost's reservation. -/
def Entry.held : Entry → Nat
  | .absent => 0
  | .member m => m.grant
  | .ghost g => g.grant

/-- The units an entry reserves as a ghost. -/
def Entry.reserved : Entry → Nat
  | .ghost g => g.grant
  | _ => 0

def sumOf (f : Entry → Nat) (l : List Entry) : Nat := l.foldr (fun e n => f e + n) 0

/-- The sum of grants and reservations (R5). -/
def Table.sum (t : Table) : Nat := sumOf Entry.held t.entries

/-- The ghost reservations. -/
def Table.reservations (t : Table) : Nat := sumOf Entry.reserved t.entries

/-- Free: B less the sum, or 0 when that is not positive (R5). -/
def State.free (s : State) : Nat := s.budget - s.table.sum

/-- OVER: the sum exceeds B (R5). -/
def State.isOver (s : State) : Bool := decide (s.budget < s.table.sum)

/-- The rotor start: the epoch mod 32 (R3). -/
def Table.rotor (t : Table) : Nat := t.epoch.toNat % 32

/-- A member is starved when its grant is below both its demand and its entitlement (R6). -/
def Member.starved (m : Member) : Bool := decide (m.grant < m.demand ∧ m.grant < m.entitlement)

/-- The starved set that the present entries give (R6). -/
def Table.starvedNow (t : Table) : List StationNo :=
  stations.filter fun n => (t.member? n).any Member.starved

/-- The Table Unit recomputes its starved set (R6). -/
def State.recomputeStarved (s : State) : State :=
  s.withTable { s.table with starved := s.table.starvedNow }

/-! ### The own entry -/

def State.ownMember? (s : State) : Option Member := s.table.member? s.own

/-- g_own; 0 without an own entry. -/
def State.gOwn (s : State) : Nat := (s.ownMember?.map Member.grant).getD 0
/-- d_own; 0 without an own entry. -/
def State.dOwn (s : State) : Nat := (s.ownMember?.map Member.demand).getD 0
/-- E_own; 0 without an own entry. -/
def State.eOwn (s : State) : Nat := (s.ownMember?.map Member.entitlement).getD 0

/-! ### Age and ghost time (R2, R26) -/

/-- A member's age in milliseconds; it holds at 65535 (R2). -/
def Member.age (m : Member) (now : Time) : Nat := min 65535 (msBetween m.since now)

/-- The ghost time left in milliseconds; 0 for an expired ghost (R26). -/
def Ghost.left (g : Ghost) (now : Time) : Nat :=
  match g.timer with
  | none => 0
  | some t => msLeft now t

/-! ### The table clear (R9) -/

/-- A table clear; the snapshot buffer, its number and a pending request stay (R29). -/
def Table.cleared (t : Table) : Table :=
  { Table.reset with
    snapshot := t.snapshot, snapNumber := t.snapNumber, snapPending := t.snapPending }

/-! ### The snapshot (R28, R29, R175) -/

def Entry.view (now : Time) : Entry → EntryView
  | .absent => .absent
  | .member m =>
    .member m.weight m.demand m.grant m.entitlement (m.age now) m.silent m.confirmed
  | .ghost g => .ghost g.grant (g.left now)

/-- A copy of the whole table as it stands (R29). -/
def State.snapshotNow (s : State) : Snapshot where
  entries := s.table.entries.map (Entry.view s.now)
  epoch   := s.table.epoch
  tsn     := s.table.tsn
  roster  := s.table.roster
  ghosts  := s.table.ghosts
  sum     := s.table.sum
  free    := s.free
  isOver  := s.isOver
  rotor   := s.table.rotor
  starved := s.table.starved
  passes  := s.engine.lastPasses

/-- The number after `n`: plus 1, from 255 back to 1 (R175). -/
def nextSnapNumber (n : Nat) : Nat := if n = 255 then 1 else n + 1

/-- The snapshot is taken: the buffer is replaced and valid, the number moves on, and the pending request
is gone (R28, R175). -/
def State.takeSnapshotNow (s : State) : State :=
  s.withTable { s.table with
    snapshot := some s.snapshotNow
    snapNumber := nextSnapNumber s.table.snapNumber
    snapPending := false }

end Sys2Proof.Machine
end

