-- ==== Sys2Proof/Machine/EngineOps.lean ====
section
/-! DEFINITION. The Share Engine (02_entitlement_and_the_share_engine.md): the start of a run, its
passes, its final share and its duration. -/

namespace Sys2Proof.Machine

/-- The Table Unit is idle when no engine run is in progress: all its other work takes no time (R10),
and a close or lone formation in progress is one whose run has not completed. -/
abbrev State.tableIdle (s : State) : Prop := s.engine.run = none

/-! ### The computation (R33 to R37) -/

/-- The proportional part: the floor of R times w over W (R34). -/
def part (remaining total weight : Nat) : Nat := remaining * weight / total

/-- W, the sum of the weights in S (R34). -/
def totalWeight (share : List Sharer) : Nat := share.foldr (fun i n => i.weight + n) 0

/-- The demands of a list of members, added up. -/
def totalDemand (share : List Sharer) : Nat := share.foldr (fun i n => i.demand + n) 0

/-- A member of S is capped in a pass when its demand is at or below its part (R35). -/
def Sharer.capped (remaining total : Nat) (i : Sharer) : Bool :=
  decide (i.demand ≤ part remaining total i.weight)

/-- The station numbers in rotor order from `rotor` (00_scope.md 4.1). -/
def rotorOrder (rotor : Nat) : List StationNo := stations.drop rotor ++ stations.take rotor

/-- The parts of the members of S, added up. -/
def totalParts (remaining total : Nat) (share : List Sharer) : Nat :=
  share.foldr (fun i n => part remaining total i.weight + n) 0

/-- The first U members of S in rotor order, which receive one leftover unit each (R37). -/
def leftoverTakers (rotor remaining : Nat) (share : List Sharer) : List StationNo :=
  ((rotorOrder rotor).filter fun n => (share.map Sharer.station).contains n).take
    (remaining - totalParts remaining (totalWeight share) share)

/-- The final share: each member left in S receives its part, and the leftover goes out one unit each in
rotor order (R37). -/
def finalShare (rotor remaining : Nat) (share : List Sharer) : List (StationNo × Nat) :=
  share.map fun i =>
    (i.station, part remaining (totalWeight share) i.weight +
      if (leftoverTakers rotor remaining share).contains i.station then 1 else 0)

/-- What a run comes to: the entitlements, the pass count, and the microseconds its passes took. -/
structure RunResult where
  found    : List (StationNo × Nat)
  passes   : Nat
  duration : Nat
deriving DecidableEq, Repr

/-- The passes of a run, at most `fuel` of them (R34 to R37, R42). -/
def runPasses (rotor : Nat) :
    Nat → List Sharer → Nat → List (StationNo × Nat) → Nat → Nat → RunResult
  | 0, _, _, found, passes, duration => ⟨found, passes, duration⟩
  | fuel + 1, share, remaining, found, passes, duration =>
    if share = [] then ⟨found, passes, duration⟩
    else if share.filter (Sharer.capped remaining (totalWeight share)) = [] then
      ⟨found ++ finalShare rotor remaining share, passes + 1, duration + 3 + share.length⟩
    else
      runPasses rotor fuel
        (share.filter fun i => !Sharer.capped remaining (totalWeight share) i)
        (remaining - totalDemand (share.filter (Sharer.capped remaining (totalWeight share))))
        (found ++ (share.filter (Sharer.capped remaining (totalWeight share))).map
          fun i => (i.station, i.demand))
        (passes + 1) (duration + 3 + share.length)

/-- The result of a run. Each pass but the last caps a member, so the members of S bound the number of
passes (R36); a run that makes no pass takes 3 microseconds (R42). -/
def Run.result (r : Run) : RunResult :=
  if r.share = [] then ⟨r.found, r.passes, 3⟩
  else runPasses r.rotor r.share.length r.share r.remaining r.found r.passes 0

/-- The moment at which a run completes (R42). -/
def Run.due (r : Run) : Time := r.started + r.result.duration * ticksPerUs

/-! ### Starting and completing a run (R31, R32, R40) -/

/-- The members of a table as the engine reads them (R32). -/
def Table.sharers (t : Table) : List Sharer :=
  stations.filterMap fun n => (t.member? n).map fun m => ⟨n, m.weight, m.demand⟩

/-- A run goes RUNNING: its inputs are read, members with demand 0 are set aside at E = 0, and
entitlement-valid is cleared (R31 to R33). -/
def State.startRun (s : State) (work : RunWork) : State :=
  let members := s.table.sharers
  (s.withTable { s.table with entValid := false }).withEngine { s.engine with
    run := some
      { work := work
        started := s.now
        rotor := s.table.rotor
        share := members.filter fun i => i.demand != 0
        remaining := s.budget - s.table.reservations
        found := (members.filter fun i => i.demand == 0).map fun i => (i.station, 0)
        passes := 0 } }

/-- The entitlement a result gives station `n`. -/
def entitlementOf (found : List (StationNo × Nat)) (n : StationNo) : Nat :=
  ((found.find? fun p => p.1 == n).map Prod.snd).getD 0

/-- A run completes: all entitlements and the pass count are written in one step, the engine is IDLE,
entitlement-valid is set, and the starved set is recomputed (R40, R41). -/
def State.completeRun (s : State) (r : Run) : State :=
  let t := s.table.mapMembers fun n m => { m with entitlement := entitlementOf r.result.found n }
  let s1 := (s.withTable { t with entValid := true }).withEngine
    { run := none, lastPasses := r.result.passes }
  s1.recomputeStarved

end Sys2Proof.Machine
end

