-- ==== Sys2Proof/Machine/QueueOps.lean ====
section
/-! DEFINITION. The Transmit Queue (07_line_access_and_the_transmit_queue.md): queueing, coalescing,
standing, withdrawal, flush, gaps and backoff. -/

namespace Sys2Proof.Machine

/-! ### Kinds, classes, standing (R119, R144, R146) -/

def Payload.kind : Payload → Kind
  | .beacon _ => .beacon
  | .demand _ => .demand
  | .claim _ => .claim
  | .release _ => .release
  | .clear _ => .clear
  | .slow => .slow
  | .recount _ _ => .recount
  | .report _ _ _ _ _ => .report

/-- The line-access class (R119). -/
def Payload.lineClass : Payload → Nat
  | .beacon close => if close then 1 else 2
  | .demand _ => 2
  | .claim _ => 2
  | .release _ => 0
  | .clear _ => 2
  | .slow => 0
  | .recount _ _ => 1
  | .report _ _ _ _ _ => 1

/-- The place of a kind in the order of standing, 0 the highest (R146). -/
def Payload.standing : Payload → Nat
  | .release _ => 0
  | .recount _ _ => 1
  | .report _ _ _ _ _ => 2
  | .beacon close => if close then 3 else 8
  | .slow => 4
  | .demand _ => 5
  | .clear _ => 6
  | .claim _ => 7

def Slot.kind (sl : Slot) : Kind := sl.payload.kind

/-- QUEUED or in BACKOFF. -/
abbrev Slot.waiting (sl : Slot) : Prop := sl.state ≠ .onLine

/-- The slot that holds a frame of kind `k`, if one does. -/
def slotOf (k : Kind) (q : List Slot) : Option Slot := q.find? fun sl => sl.kind == k

/-- The slot that is ON_LINE, if one is. -/
def onLineSlot (q : List Slot) : Option Slot := q.find? fun sl => sl.state == .onLine

/-- Change the slot of kind `k`. -/
def updateSlot (k : Kind) (f : Slot → Slot) (q : List Slot) : List Slot :=
  q.map fun sl => if sl.kind = k then f sl else sl

/-- Free the slot of kind `k`. -/
def freeSlot (k : Kind) (q : List Slot) : List Slot := q.filter fun sl => sl.kind != k

/-- A slot newly filled: QUEUED, attempts 0, age now, no follow-on value, finishing clear (R145). -/
def Slot.fresh (now : Time) (p : Payload) : Slot where
  payload     := p
  state       := .queued
  attempts    := 0
  backoffLeft := 0
  age         := now
  followOn    := none
  finishing   := false
  flushed     := false
  counted     := 0

/-! ### Queueing (R145, R146) -/

/-- The waiting slot of lowest standing below that of `p`, which makes room for `p` (R146). -/
def displaced (p : Payload) (q : List Slot) : Option Slot :=
  q.foldl (fun best sl =>
    if sl.waiting ∧ p.standing < sl.payload.standing then
      match best with
      | none => some sl
      | some b => if b.payload.standing < sl.payload.standing then some sl else some b
    else best) none

/-- A queueing request reaches a slot of its own kind (R145). -/
def Slot.requested (p : Payload) (sl : Slot) : Slot :=
  if sl.state = .onLine then
    { sl with followOn := if p = .slow then sl.followOn else some p, finishing := false }
  else { sl with payload := p }

/-- A queueing request (R145, R146). -/
def enqueue (now : Time) (p : Payload) (q : List Slot) : List Slot :=
  match slotOf p.kind q with
  | some _ => updateSlot p.kind (Slot.requested p) q
  | none =>
    if q.length < 4 then q ++ [Slot.fresh now p]
    else
      match displaced p q with
      | none => q
      | some d => freeSlot d.kind q ++ [Slot.fresh now p]

def State.enqueue (s : State) (p : Payload) : State :=
  s.withQueue (Machine.enqueue s.now p s.queue)

/-! ### Withdrawal and flush (R152, R153) -/

/-- A withdrawal of kind `k`: a waiting slot is freed, an ON_LINE slot is set finishing (R152). -/
def withdraw (k : Kind) (q : List Slot) : List Slot :=
  updateSlot k (fun sl => { sl with finishing := true, followOn := none })
    (q.filter fun sl => decide (¬ (sl.kind = k ∧ sl.waiting)))

def State.withdraw (s : State) (k : Kind) : State := s.withQueue (Machine.withdraw k s.queue)

/-- A withdrawal of kind `k` that is asked for only if the slot is QUEUED or in BACKOFF (R52, R56, R57,
R72, R74, R77). -/
def State.withdrawWaiting (s : State) (k : Kind) : State :=
  s.withQueue (s.queue.filter fun sl => decide (¬ (sl.kind = k ∧ sl.waiting)))

/-- The flush of a state-entry clear (R153). -/
def flush (q : List Slot) : List Slot :=
  (q.filter fun sl => sl.state == .onLine).map fun sl =>
    { sl with finishing := true, followOn := none, flushed := true }

/-- The queue holds a frame of kind `k`, in any slot state. -/
abbrev State.holds (s : State) (k : Kind) : Prop := (slotOf k s.queue).isSome = true

/-- A frame of kind `k` waits in the queue: QUEUED, in BACKOFF or as a follow-on value (R73). -/
abbrev State.waits (s : State) (k : Kind) : Prop :=
  (s.queue.any fun sl => decide (sl.kind = k ∧ (sl.waiting ∨ sl.followOn.isSome = true))) = true

/-- The latest value queued in a slot: its follow-on value if one is held, else its payload. -/
def Slot.latest (sl : Slot) : Payload := sl.followOn.getD sl.payload

/-- An own RECOUNT carrying LEAVE is in the queue, as a payload or a follow-on value (R72, R92). -/
def Payload.isLeave : Payload → Bool
  | .recount _ .leave => true
  | _ => false

abbrev State.leaveQueued (s : State) : Prop :=
  (s.queue.any fun sl => sl.payload.isLeave || sl.followOn.any Payload.isLeave) = true

/-! ### Line timing (R127, R137, R142, R143) -/

/-- One bit time in units of `Time`: 125, 250, 500 or 1000 kbit/s for rate codes 0 to 3. -/
def bitTime (rateCode : BitVec 2) : Time := 16 / 2 ^ rateCode.toNat

/-- `n` bit times at the rate of the Line Interface. -/
def State.bits (s : State) (n : Nat) : Time := n * bitTime s.line.rateCode

/-- The idle gap of a class in bit times (R142). -/
def gapBits (lineClass : Nat) : Nat := 10 + 4 * lineClass

/-- The moment at which the idle time reaches the gap of a slot's class (R142). -/
def State.gapEnd (s : State) (sl : Slot) : Time :=
  s.line.since + s.bits (gapBits sl.payload.lineClass)

/-- The moment at which the next backoff slot of 64 bit times of a slot in BACKOFF has passed (R143). -/
def State.backoffDue (s : State) (sl : Slot) : Time :=
  s.gapEnd sl + s.bits (64 * (sl.counted + 1))

/-- A draw bounded as R143 says: from 0 to 2^min(n,6) - 1 after attempt `n`. -/
def boundedDraw (draw attempts : Nat) : Nat := draw % 2 ^ min attempts 6

/-- An activity ends the count of idle time and the backoff counting; the part of a backoff slot that had
run is lost (R142, R143). -/
def stopCounting (q : List Slot) : List Slot := q.map fun sl => { sl with counted := 0 }

/-! ### Eligibility and choice (R147, R148) -/

/-- The ring is empty and the Table Unit idle (R147). -/
abbrev State.ringQuiet (s : State) : Prop := s.ring.entries = [] ∧ s.tableIdle

/-- A slot's kind is allowed in the present state and phase, and its own conditions hold (R147). -/
def State.eligible (s : State) (p : Payload) : Bool :=
  match p with
  | .release _ => decide (s.settled ∧ s.ringQuiet)
  | .demand _ => decide (s.settled ∧ s.ringQuiet ∧ s.ring.deferral = none)
  | .claim _ => decide (s.settled ∧ s.ringQuiet ∧ s.ring.deferral = none)
  | .clear _ => decide (s.settled ∧ s.ringQuiet ∧ s.ring.deferral = none)
  | .beacon close =>
    if close then
      decide (s.station.state = .member ∧ s.recount.phase = .check ∧ s.ringQuiet)
    else decide (s.settled ∧ s.ringQuiet ∧ s.ring.deferral = none)
  | .recount _ _ => decide s.takesPart
  | .report _ _ _ _ _ => decide (s.takesPart ∧ s.recount.phase = .window)
  | .slow => decide (s.station.state = .member)

/-- No slot of a lower class number is in BACKOFF (R148). -/
def notHeldBack (q : List Slot) (sl : Slot) : Bool :=
  q.all fun o => decide (¬ (o.state = .backoff ∧ o.payload.lineClass < sl.payload.lineClass))

/-- The slots that can start once their gap has run (R148). -/
def State.startable (s : State) : List Slot :=
  s.queue.filter fun sl =>
    decide (sl.state = .queued) && s.eligible sl.payload && notHeldBack s.queue sl

/-- Slot `a` is chosen before slot `b`: lower class, then earlier age, then higher standing (R148). -/
def Slot.before (a b : Slot) : Bool :=
  decide (a.payload.lineClass < b.payload.lineClass) ||
    (decide (a.payload.lineClass = b.payload.lineClass) &&
      (decide (a.age < b.age) || (decide (a.age = b.age) && decide (a.payload.standing < b.payload.standing))))

/-- The first of a list of slots by `Slot.before`. -/
def firstSlot : List Slot → Option Slot
  | [] => none
  | sl :: rest =>
    match firstSlot rest with
    | none => some sl
    | some o => if o.before sl then some o else some sl

/-- The earliest moment at which some startable slot's gap has run, not before now. -/
def State.startMoment (s : State) : Option Time :=
  match (s.startable.map s.gapEnd).min? with
  | none => none
  | some t => some (max s.now t)

/-- The slot chosen at moment `t`, among those whose gap has run by then (R148). -/
def State.chosenAt (s : State) (t : Time) : Option Slot :=
  firstSlot (s.startable.filter fun sl => decide (s.gapEnd sl ≤ t))

end Sys2Proof.Machine
end

