-- ==== Sys2Proof/Machine/GrantOps.lean ====
section
/-! DEFINITION. Grant Control (03_claiming_yielding_and_cut_off.md): notices, the yield need, the lower
request, and what lowers A. -/

namespace Sys2Proof.Machine

/-- Grant Control gives notice that A is 0: in ISOLATED it starts the isolation hold, unless the hold runs
already (R67, R111). -/
def State.noticeZero (s : State) : State :=
  if s.station.state = .isolated ∧ s.grant.applied = 0 ∧ s.station.holdTimer = none then
    s.withStation { s.station with holdTimer := some (s.after s.tIsoHold) }
  else s

/-! ### The YIELD need and the lower request (R59 to R62) -/

/-- Another member is starved, as Grant Control last heard. -/
abbrev State.othersStarved (s : State) : Prop :=
  (s.grant.seen.starved.filter fun n => n != s.own) ≠ []

/-- A YIELD need holds (R59). -/
abbrev State.yieldNeed (s : State) : Prop :=
  s.working ∧ s.grant.seen.entitlement < s.grant.applied ∧
    (s.othersStarved ∨ s.grant.seen.isOver = true)

/-- A lower request is created: LOWER_REQUEST is raised and a waiting CLAIM withdrawn (R60, R64, R52). -/
def State.createLower (s : State) (cause : LowerCause) (target : Nat) : State :=
  ((s.withGrant { s.grant with
      lower := some { cause := cause, target := target, deadline := s.after s.tYield } }).raise
    .lowerRequest).withdrawWaiting .claim

/-- The lower request is gone (R61, R62). -/
def State.clearLower (s : State) : State := s.withGrant { s.grant with lower := none }

/-- A lower request is cleared when A is at or below its target (R62). -/
def State.satisfyLower (s : State) : State :=
  match s.grant.lower with
  | some r => if s.grant.applied ≤ r.target then s.clearLower else s
  | none => s

/-- The rows of R61 for a YIELD request `r` that A has not met. -/
def State.recheckYield (s : State) (r : LowerRequest) : State :=
  if s.grant.applied ≤ r.target then s.clearLower
  else if s.grant.applied ≤ s.grant.seen.entitlement then s.clearLower.raise .lowerWithdrawn
  else if ¬ s.yieldNeed then s.clearLower.raise .lowerWithdrawn
  else if s.grant.seen.entitlement < r.target then
    (s.withGrant { s.grant with
      lower := some { r with target := s.grant.seen.entitlement } }).raise .lowerRequest
  else s.withGrant { s.grant with
      lower := some { r with target := s.grant.seen.entitlement } }

/-- Grant Control looks at the YIELD need, in phase NONE or CHECK, after a set of notices and after each
change of A (R59 to R61). -/
def State.lookYield (s : State) : State :=
  if s.working then
    match s.grant.lower with
    | none => if s.yieldNeed then s.createLower .yield s.grant.seen.entitlement else s
    | some r =>
      match r.cause with
      | .isolate => s
      | .yield => s.recheckYield r
  else s

/-! ### What lowers A (R48, R49, R63) -/

/-- A falls to `v`, with the effects of a CONFIRM that lowers A (R49). -/
def State.lowerApplied (s : State) (v : Nat) : State :=
  let s1 := s.withGrant { s.grant with applied := v }
  let s2 := s1.satisfyLower
  let s3 := s2.withdrawWaiting .claim
  s3.lookYield.noticeZero

/-- The cut-off at a lower request's deadline (R63). -/
def State.cutOff (s : State) : State :=
  let s1 := s.withGrant { s.grant with cutoff := true, applied := 0, lower := none }
  let s2 := s1.withdrawWaiting .claim
  (s2.raise .cutoff).noticeZero

/-- On entry to ISOLATED or BARRED Grant Control lowers the station to nothing (R64). -/
def State.isolateLower (s : State) : State :=
  if s.grant.applied = 0 then s.clearLower
  else
    match s.grant.lower with
    | none => s.createLower .isolate 0
    | some r =>
      let s1 := s.withGrant { s.grant with
        lower := some
          { cause := .isolate, target := 0, deadline := min r.deadline (s.after s.tYield) } }
      if r.target = 0 then s1 else s1.raise .lowerRequest

/-! ### Notices from the Table Unit (R24, R41, R53) -/

/-- What a notice of the present table says. -/
def State.noticeNow (s : State) : Notice where
  entitlement := s.eOwn
  starved     := s.table.starved
  isOver      := s.isOver

/-- Clear claim back-off (R24, R54). -/
def State.clearBackoff (s : State) : State := s.withGrant { s.grant with backoff := false }

/-- The changed notice, given when E_own, the starved set or OVER differs from what Grant Control was last
told (R24, R41); the demand now recorded is the one the entitlements come from (R50). -/
def State.noticeChanged (s : State) : State :=
  s.withGrant { s.grant with seen := s.noticeNow, sharedDemand := s.dOwn }

/-- The notices of R24 that follow a change of the table; `clear` for the ones that clear claim back-off.
The YIELD need is looked at once the set has been acted on (R59). -/
def State.giveNotices (s : State) (clear : Bool) : State :=
  if clear then s.clearBackoff.noticeChanged.lookYield
  else if s.noticeNow = s.grant.seen then s
  else s.noticeChanged.lookYield

/-- Grant Control takes the committed increment `inc` of an own CLAIM of amount `a` (R53). -/
def State.ownClaimApplied (s : State) (inc a : Nat) : State :=
  let risen := if s.grant.cutoff then s.grant.applied else s.grant.applied + inc
  let applied := min risen s.grant.demand
  let s1 := s.withGrant { s.grant with applied := applied }
  let s2 := if s.grant.applied < applied then s1.raise .grantRaised else s1
  let s3 := if inc < a then
      (s2.withGrant { s2.grant with backoff := true }).raise .claimShort else s2
  s3.satisfyLower

/-- The notices that follow an own CLAIM: the increment first, then a changed notice (R24), then the look
at the YIELD need (R53, R59). -/
def State.ownClaimNotices (s : State) (inc a : Nat) : State :=
  (s.ownClaimApplied inc a).noticeChanged.lookYield

/-! ### SUSPECT and DIVERGED (R7, R8, R52) -/

/-- SUSPECT is set; a waiting CLAIM is withdrawn when it becomes set (R7, R52, log 11). -/
def State.setSuspect (s : State) : State :=
  let s1 := s.withTable { s.table with suspect := true }
  if s.table.suspect then s1 else s1.withdrawWaiting .claim

/-- DIVERGED is set; a waiting CLAIM is withdrawn when it becomes set (R8, R52, log 11). -/
def State.setDiverged (s : State) : State :=
  let s1 := s.withTable { s.table with diverged := true }
  if s.table.diverged then s1 else s1.withdrawWaiting .claim

end Sys2Proof.Machine
end

