-- ==== Sys2Proof/Machine/StationOps.lean ====
section
/-! DEFINITION. The Station Controller (05_station_states_and_supervision.md): the state-entry clear, the
entries to the states, the line-lost decision, and the resets of all blocks (11). -/

namespace Sys2Proof.Machine

/-! ### The state-entry clear (R99) -/

/-- R155, column state-entry clear: the deferral expiry is kept. -/
def Ring.cleared (r : Ring) : Ring := { Ring.reset with deferral := r.deferral }

/-- R97: what every entry to LISTEN, ISOLATED, BARRED and PARKED sets. -/
def Station.entered (x : StationState) : Station := { Station.reset with state := x }

/-- The state-entry clear and the entry to `x`: table, engine, queue, ring and Recount Controller are
cleared, claim back-off is cleared, and the Station Controller's items are set (R9, R30, R44, R54, R69,
R97, R99, R153, R155). Grant Control, told of a cleared table, holds its values. -/
def State.enter (s : State) (x : StationState) : State :=
  let s1 := s.withTable s.table.cleared
  let s2 := s1.withEngine Engine.reset
  let s3 := s2.withQueue (flush s.queue)
  let s4 := s3.withRing s.ring.cleared
  let s5 := s4.withRecount Recount.reset
  let s6 := s5.withGrant { s.grant with
    backoff := false, seen := Notice.reset, sharedDemand := 0 }
  s6.withStation (Station.entered x)

/-! ### Entries (R98, R101, R109, R111, R114, R115) -/

/-- Entry to LISTEN: the listen timer starts (R101, R68). -/
def State.enterListen (s : State) : State :=
  let s1 := s.enter .listen
  s1.withStation { s1.station with listenTimer := some (s.after s.tListen) }

/-- Entry to ISOLATED (R109): the event, R64, and with A at 0 the notice that starts the hold. -/
def State.enterIsolated (s : State) : State :=
  ((s.enter .isolated).raise .isolated).isolateLower.noticeZero

/-- Entry to BARRED (R114). -/
def State.enterBarred (s : State) : State :=
  ((s.enter .barred).raise .barred).isolateLower

/-- Entry to PARKED (R115). -/
def State.enterParked (s : State) : State := s.enter .parked

/-- A request for ISOLATED, by the state it reaches (R98). -/
def State.requestIsolated (s : State) : State := if s.takesPart then s.enterIsolated else s

/-- A request for BARRED, by the state it reaches (R98). -/
def State.requestBarred (s : State) : State :=
  if s.takesPart ∨ s.station.state = .isolated then s.enterBarred else s

/-- The flow hold on entry to MEMBER: fewer than 4 free places ask for a SLOW (R162). -/
def State.lookFlow (s : State) : State :=
  if s.station.state = .member ∧ s.ring.flow = .off ∧ 12 < s.ring.entries.length then
    (s.withRing { s.ring with flow := .sending }).enqueue .slow
  else s

/-- Entry to MEMBER: no clear; the abandonment count is kept (R97, R99, R105). -/
def State.enterMember (s : State) : State :=
  (s.withStation { Station.entered .member with
    abandonments := s.station.abandonments }).lookFlow

/-! ### Supervision (R2, R107) -/

/-- Every roster member other than the own station has its silent flag set (R107). -/
abbrev State.allOthersSilent (s : State) : Prop :=
  (s.table.roster.all fun n => decide (n = s.own) || (s.table.member? n).any Member.silent) = true

/-- A moment lies more than `n` milliseconds back; an absent one is older than any bound (R69). -/
def olderThan (now : Time) (n : Nat) : Option Time → Bool
  | none => true
  | some t => decide (ms n < now - t)

/-- No frame from another station has been taken within the last T_silence/2 (R107). -/
abbrev State.nothingHeard (s : State) : Prop :=
  (s.table.roster.all fun n =>
    decide (n = s.own) ||
      (s.table.member? n).any fun m => decide (s.tSilence / 2 < m.age s.now)) = true ∧
  olderThan s.now (s.tSilence / 2) s.recount.lastNonMember = true

/-- The line has been lost (R107). -/
abbrev State.lineLost (s : State) : Prop := s.allOthersSilent ∨ s.nothingHeard

/-- Every roster member other than the own station is confirmed (R88). -/
abbrev State.allConfirmed (s : State) : Prop :=
  (s.table.roster.all fun n => decide (n = s.own) || (s.table.member? n).any Member.confirmed) = true

/-! ### Resets of all blocks (R180, R191, R197, R198) -/

/-- Leaving LOADING with a valid record: entry to LISTEN, and the Line Interface takes the bit rate and
waits for released line (R137, R197). -/
def State.leaveLoading (s : State) : State :=
  s.enterListen.withLine { s.line with
    state := .starting, since := s.now, rateCode := s.config.rateCode.setWidth 2 }

/-- A RESTART: every block but the Local Port and the Configuration Loader takes its RESTART values, the
backoff generator runs on, and LOADING ends at once with entry to LISTEN (R180, R198). -/
def State.restarted (s : State) : State :=
  State.leaveLoading { State.reset with
    now := s.now
    resetLow := s.resetLow
    csnHigh := s.csnHigh
    loader := s.loader
    line := { Line.reset with draws := s.line.draws }
    port := s.port
    pending := s.pending }

/-- A POWER reset: every block takes its POWER reset values and RESETN is low (R191, R197). -/
def State.powerReset (s : State) : State :=
  { State.reset with now := s.now, csnHigh := s.csnHigh, pending := s.pending }

end Sys2Proof.Machine
end

