-- ==== Sys2Proof/Machine/RecountOps.lean ====
section
/-! DEFINITION. The Recount Controller (04_recount.md): epochs heard, causes, requests, window entry, the
report list, the close, and the settle. -/

namespace Sys2Proof.Machine

/-! ### The highest epoch heard (R70) -/

/-- The highest epoch heard after epoch `x` has been given (R70). -/
def highestAfter (h : Option Half) (x : Half) : Half :=
  match h with
  | none => x
  | some y => if laterEpoch x y then x else y

def State.giveEpoch (s : State) (x : Half) : State :=
  s.withRecount { s.recount with highest := some (highestAfter s.recount.highest x) }

/-- The target of an own RECOUNT: one past the highest epoch heard (R72; log 19 for an absent one). -/
def State.nextTarget (s : State) : Half := s.recount.highest.getD s.table.epoch + 1

/-! ### Causes (R71 to R74) -/

/-- The code of a cause (section 4.2). -/
def Cause.code : Cause → Nat
  | .join => 0
  | .mismatch => 1
  | .behind => 2
  | .merge => 3
  | .silence => 4
  | .lost => 5
  | .roster => 6
  | .leave => 7

/-- The causes that the guard holds (section 4.2). -/
def Cause.guarded : Cause → Bool
  | .mismatch => true
  | .merge => true
  | .silence => true
  | _ => false

/-- Request a recount with cause `c` (R72). -/
def State.requestRecount (s : State) (c : Cause) : State :=
  let cause := if s.leaveQueued then .leave else c
  let s1 := s.enqueue (.recount s.nextTarget cause)
  if s.recount.requested then s1
  else (s1.withRecount { s1.recount with requested := true }).withdrawWaiting .claim

def PendingCauses.add (p : PendingCauses) (c : Cause) : PendingCauses :=
  match c with
  | .mismatch => { p with mismatch := true }
  | .merge => { p with merge := true }
  | .silence => { p with silence := true }
  | _ => p

/-- No cause is pending. -/
abbrev PendingCauses.empty (p : PendingCauses) : Prop := p = ⟨false, false, false⟩

/-- A guarded cause enters the pending causes and a waiting own CLAIM is withdrawn; a cause already pending is
not added twice, and asks for nothing (R74). -/
def State.addPending (s : State) (c : Cause) : State :=
  if s.recount.causes.add c = s.recount.causes then s
  else (s.withRecount { s.recount with causes := s.recount.causes.add c }).withdrawWaiting .claim

/-- The Recount Controller acts on a cause given to it, by state and phase (R71). LEAVE is judged by R92. -/
def State.giveCause (s : State) (c : Cause) : State :=
  match s.station.state, s.recount.phase with
  | .member, .none =>
    if c.guarded ∧ s.recount.guardTimer ≠ none then s.addPending c else s.requestRecount c
  | .member, .check => s.requestRecount c
  | .listen, .none => if c = .join then s.requestRecount c else s
  | _, _ => s

/-- The loopback of an own RECOUNT has been taken or dropped: requested is cleared unless a further own
RECOUNT waits (R73, R159). -/
def State.recountBack (s : State) : State :=
  if s.waits .recount then s
  else s.withRecount { s.recount with requested := false }

/-! ### Window entry, absorption, reports (R77 to R81) -/

/-- Step 5 of R78: every own DEMAND, CLAIM, RELEASE, CLEAR, BEACON and RECOUNT is withdrawn. -/
def State.withdrawForWindow (s : State) : State :=
  (((((s.withdraw .demand).withdraw .claim).withdraw .release).withdraw .clear).withdraw
    .beacon).withdraw .recount

/-- The frame that states the own report values (R79, R124). -/
def State.reportPayload (s : State) (target : Half) : Payload :=
  .report target (BitVec.ofNat 4 s.weight) (BitVec.ofNat 16 s.grant.demand)
    (BitVec.ofNat 16 s.grant.applied) s.digest

/-- Window entry for `target` (R78, R91, R102, R106); requested is cleared with the withdrawal of an own
RECOUNT (R73, log 12). -/
def State.windowEntry (s : State) (target : Half) : State :=
  if 4 ≤ s.recount.count then s.requestIsolated
  else
    let s1 := s.withRecount { s.recount with
      count := s.recount.count + 1
      phase := .window
      target := some target
      reports := []
      ownSent := false
      windowTimer := some (s.after s.tWindow)
      checkTimer := none
      guardTimer := none
      causes := ⟨false, false, false⟩
      closeWaiting := false
      requested := s.recount.requested && !decide (s.holds .recount)
      ownReport := some ⟨s.weight, s.grant.demand, s.grant.applied⟩ }
    let s2 := s1.withStation { s1.station with
      beaconTimer := none, listenTimer := none, listenWaiting := false }
    ((s2.withdrawForWindow.enqueue (s.reportPayload target)).raise .recountStarted).countRecount

/-- A RECOUNT for the window target is absorbed: a waiting own RECOUNT is withdrawn, and requested with it
(R77, R73). -/
def State.absorb (s : State) : State :=
  if (s.queue.any fun sl => decide (sl.kind = .recount ∧ sl.waiting)) = true then
    let s1 := s.withdrawWaiting .recount
    s1.withRecount { s1.recount with requested := false }
  else s

/-- A RECOUNT is judged by its target (R77). -/
def State.judgeRecount (s : State) (target : Half) : State :=
  match s.recount.phase with
  | .window =>
    match s.recount.target with
    | none => s.windowEntry target
    | some w =>
      if target = w then s.absorb
      else if laterEpoch target w then s.windowEntry target
      else s.countStale
  | _ =>
    if s.station.state = .listen ∨ laterEpoch target s.table.epoch then s.windowEntry target
    else s.countStale

/-- A RECOUNT is taken; `own` for the own loopback, which clears requested whatever it does (R77, R73). -/
def State.takeRecount (s : State) (target : Half) (own : Bool) : State :=
  let s1 := s.judgeRecount target
  if own then s1.recountBack else s1

/-- A report record replaces the one of its station, or joins the list (R81). -/
def recordReport (r : ReportRecord) (l : List ReportRecord) : List ReportRecord :=
  if (l.any fun o => o.station == r.station) = true then
    l.map fun o => if o.station = r.station then r else o
  else l ++ [r]

/-- A REPORT taken in WINDOW, by its sender and target (R80). -/
def State.windowReport (s : State) (r : ReportRecord) (target : Half) : State :=
  match s.recount.target with
  | none => s
  | some w =>
    if r.station = s.own then
      if target = w then s.withRecount { s.recount with ownSent := true } else s.countStale
    else if target = w then
      s.withRecount { s.recount with reports := recordReport r s.recount.reports }
    else if laterEpoch target w then s
    else s.countStale

/-! ### The close (R83 to R86) -/

/-- The member entry that a report makes (R84). -/
def newMember (now : Time) (weight demand grant : Nat) : Member where
  weight      := weight
  demand      := demand
  grant       := grant
  entitlement := 0
  since       := now
  silent      := false
  confirmed   := false

/-- The entry of a station outside the new roster, from its old one (R85). -/
def Entry.afterClose (ghostEnds : Time) : Entry → Entry
  | .absent => .absent
  | .member m => if 0 < m.grant then .ghost ⟨m.grant, some ghostEnds⟩ else .absent
  | .ghost g => .ghost g

/-- The own report values of the window. -/
def State.ownReportValues (s : State) : OwnReport :=
  s.recount.ownReport.getD ⟨s.weight, s.grant.demand, s.grant.applied⟩

/-- The entry of station `n` after the close (R84, R85). -/
def State.closedEntry (s : State) (n : StationNo) : Entry :=
  if n = s.own then
    .member (newMember s.now s.ownReportValues.weight s.ownReportValues.demand
      s.ownReportValues.grant)
  else
    match s.recount.reports.find? fun r => r.station == n with
    | some r => .member (newMember s.now r.weight r.demand r.grant)
    | none => (s.table.entryAt n).afterClose (s.after s.tGhost)

/-- The epoch a close sets: the window target (R84). -/
def State.closeEpoch (s : State) : Half := s.recount.target.getD s.table.epoch

/-- The table a close rebuilds (R84, R85). The starved set waits for the run (R41). -/
def State.closedTable (s : State) : Table :=
  { s.table with
    entries := stations.map s.closedEntry
    epoch := s.closeEpoch
    tsn := 0
    suspect := false
    diverged := false
    entValid := false }

/-- The rebuild of a close and the start of its run (R83 to R85, R70, R69, R31). -/
def State.rebuild (s : State) : State :=
  let s1 := s.withRing { s.ring with lost := false }
  let s2 := s1.withTable s.closedTable
  let s3 := s2.withRecount { s2.recount with lastNonMember := none }
  (s3.giveEpoch s.closeEpoch).startRun .close

/-- The table of a lone formation (R25). -/
def State.loneTable (s : State) : Table :=
  { s.table with
    entries := stations.map fun n =>
      if n = s.own then .member (newMember s.now s.weight s.grant.demand 0) else .absent
    epoch := 1
    tsn := 0
    suspect := false
    diverged := false
    entValid := false }

/-- A lone formation: LOST is cleared, the table set, and a run started (R25, R160, R70, R31). -/
def State.formAlone (s : State) : State :=
  let s1 := s.withRing { s.ring with lost := false }
  let s2 := s1.withTable s.loneTable
  let s3 := s2.withRecount { s2.recount with lastNonMember := none }
  (s3.giveEpoch 1).startRun .loneFormation

/-! ### The settle (R88, R89, R2, R106) -/

/-- What a settle after CHECK and one that ends a lone formation have in common (R88, R104, R106). -/
def State.settleCommon (s : State) : State :=
  let s1 := s.withRecount { s.recount with
    phase := .none, count := 0, checkTimer := none, guardTimer := some (s.after s.tGuard) }
  let s2 := s1.withStation { s1.station with beaconTimer := some (s.after s.tBeacon) }
  s2.raise .recountSettled

/-- A close BEACON on the line becomes an ordinary one, its follow-on value too (R152). -/
def Slot.ordinary (sl : Slot) : Slot :=
  { sl with payload := .beacon false, followOn := sl.followOn.map fun _ => .beacon false }

/-- The close BEACON at the settle (R89, R152). -/
def State.replaceCloseBeacon (s : State) : State :=
  match slotOf .beacon s.queue with
  | none => s
  | some sl =>
    if sl.state = .onLine then s.withQueue (updateSlot .beacon Slot.ordinary s.queue)
    else (s.withQueue (freeSlot .beacon s.queue)).enqueue (.beacon false)

/-- A member whose silent flag is to be set at a settle (R2). -/
def State.settleSilent (s : State) (n : StationNo) (m : Member) : Bool :=
  decide (n ≠ s.own) && decide (s.tSilence < m.age s.now)

/-- The Station Controller acts on members newly silent (R107). -/
def State.actOnSilence (s : State) : State :=
  if s.lineLost then s.requestIsolated else s.giveCause .silence

/-- At a settle every other member already older than T_silence is marked silent and reported
(R2, R107; log 25). -/
def State.markSilentAtSettle (s : State) : State :=
  if (stations.any fun n => (s.table.member? n).any (s.settleSilent n)) = true then
    (s.withTable (s.table.mapMembers fun n m =>
      if s.settleSilent n m then { m with silent := true } else m)).actOnSilence
  else s

/-- The settle of a station in CHECK (R88, R89, R106, R2). -/
def State.settle (s : State) : State := s.settleCommon.replaceCloseBeacon.markSilentAtSettle

end Sys2Proof.Machine
end

