-- ==== Sys2Proof/WellFormed.lean ====
section
/-! DEFINITION. What the manual says of a command's operands before any state is looked at: an unknown
request carries an unassigned code, and an activity that ends at an end of frame began driven, was
never driven for 2 bit times and never released for two whole cells. -/

namespace Sys2Proof

/-- The sixteen request codes of section 9.3. -/
def assignedCodes : List Byte :=
  [0x01, 0x10, 0x11, 0x12, 0x20, 0x21, 0x22, 0x30, 0x31, 0x32, 0x33, 0x34, 0x40, 0x41, 0x4E, 0x50]

/-- The levels of the half cells of an activity, in order. -/
def halfLevels : List Cell → List Bool
  | [] => []
  | c :: cs => c.first :: c.second :: halfLevels cs

/-- Some four half cells in a row, 2 bit times, are driven: the activity is a jam (R129, R141). -/
def drivenForTwoBits : List Bool → Bool
  | a :: b :: c :: d :: rest => (a && b && c && d) || drivenForTwoBits (b :: c :: d :: rest)
  | _ => false

/-- Two whole cells in a row are released: the activity has ended before (R139). -/
def releasedForTwoCells : List Cell → Bool
  | a :: b :: rest =>
    (!a.first && !a.second && !b.first && !b.second) || releasedForTwoCells (b :: rest)
  | _ => false

/-- The activity begins with the line driven (R138). -/
def beginsDriven : List Cell → Bool
  | [] => false
  | c :: _ => c.first

/-- The last cell of the activity still holds a driven half: the released cells after it are not part
of it (R139). -/
def endsDriven : List Cell → Bool
  | [] => false
  | [c] => c.first || c.second
  | _ :: c :: cs => endsDriven (c :: cs)

/-- An activity that can end at an end of frame (R129, R138, R139, R141). -/
def wellFormedActivity (cells : List Cell) : Bool :=
  beginsDriven cells && endsDriven cells && !drivenForTwoBits (halfLevels cells) &&
    !releasedForTwoCells cells

/-- The operands of a command are ones the manual gives it. -/
def Instr.wellFormed : Instr → Bool
  | .unknownRequest code => !assignedCodes.contains code
  | .frameReceived cells => wellFormedActivity cells
  | _ => true

end Sys2Proof
end

