-- ==== Sys2Proof/Machine/Operands.lean ====
section
/-! DEFINITION. The operand forms of the commands: the cells, bits and bytes of a frame, the check, the
receive checks and the forming of a frame (06_frames.md); the bytes of the local port's answers
(09_local_port.md section 9.7); the digest and the checks of the configuration record (11). -/

namespace Sys2Proof.Machine

/-! ### Bytes and bits (R117, R138, 00_scope.md 4.5) -/

/-- The upper byte of a two-byte field. -/
def hi (x : Half) : Byte := x.extractLsb' 8 8

/-- The lower byte of a two-byte field. -/
def lo (x : Half) : Byte := x.extractLsb' 0 8

/-- A two-byte field from its bytes, most significant first. -/
def half (h l : Byte) : Half := h ++ l

/-- A two-byte field as it is sent. -/
def be16 (x : Half) : List Byte := [hi x, lo x]

/-- A four-byte vector as it is sent (R135). -/
def be32 (x : BitVec 32) : List Byte :=
  [x.extractLsb' 24 8, x.extractLsb' 16 8, x.extractLsb' 8 8, x.extractLsb' 0 8]

/-- A whole number as two bytes. -/
def nat16 (n : Nat) : List Byte := be16 (BitVec.ofNat 16 n)

/-- A whole number as one byte. -/
def nat8 (n : Nat) : Byte := BitVec.ofNat 8 n

/-- A whole number as three bytes (R176). -/
def nat24 (n : Nat) : List Byte := [nat8 (n / 65536), nat8 (n / 256), nat8 n]

/-- The bits of a byte, most significant first. -/
def byteBits (b : Byte) : List Bool :=
  [b.getLsbD 7, b.getLsbD 6, b.getLsbD 5, b.getLsbD 4, b.getLsbD 3, b.getLsbD 2, b.getLsbD 1, b.getLsbD 0]

/-- A byte from its bits, most significant first. -/
def bitsByte (a b c d e f g h : Bool) : Byte :=
  BitVec.ofBool a ++ BitVec.ofBool b ++ BitVec.ofBool c ++ BitVec.ofBool d ++ BitVec.ofBool e ++
    BitVec.ofBool f ++ BitVec.ofBool g ++ BitVec.ofBool h

/-- The bits of a run of bytes. -/
def bytesBits (l : List Byte) : List Bool := l.flatMap byteBits

/-- The bytes of a run of bits; none when they are not a whole number of bytes (R130, check 2). -/
def bitsBytes : List Bool → Option (List Byte)
  | [] => some []
  | a :: b :: c :: d :: e :: f :: g :: h :: rest =>
    (bitsBytes rest).map fun l => bitsByte a b c d e f g h :: l
  | _ => none

/-- The cell of a bit (R138). -/
def cellOf (b : Bool) : Cell := ⟨b, !b⟩

/-- The bit of a cell; none for a coding violation, a cell without a transition at its middle (R138). -/
def bitOf (c : Cell) : Option Bool := if c.first = c.second then none else some c.first

/-- The bits of an activity; none when a coding violation lies in it (R130, check 1). -/
def cellsBits : List Cell → Option (List Bool)
  | [] => some []
  | c :: cs =>
    match bitOf c, cellsBits cs with
    | some b, some l => some (b :: l)
    | _, _ => none

/-- The start delimiter 1011 0010 (R117). -/
def delimiter : List Bool := [true, false, true, true, false, false, true, false]

/-! ### The check (R125) -/

/-- One bit fed into the register. -/
def crcBit (r : BitVec 16) (b : Bool) : BitVec 16 :=
  if r.msb = b then r <<< 1 else (r <<< 1) ^^^ 0x1021#16

/-- The check over a run of bytes, from a register of all ones. -/
def crc (l : List Byte) : Half := (bytesBits l).foldl crcBit 0xFFFF#16

/-! ### Kinds, causes and payloads (R119 to R124) -/

def kindCode : Kind → Byte
  | .beacon => 1
  | .demand => 2
  | .claim => 3
  | .release => 4
  | .clear => 5
  | .slow => 6
  | .recount => 7
  | .report => 8

/-- P, the payload length of a kind. -/
def payloadLength : Kind → Nat
  | .beacon => 10
  | .demand => 2
  | .claim => 2
  | .release => 2
  | .clear => 1
  | .slow => 0
  | .recount => 3
  | .report => 9

def Body.kind : Body → Kind
  | .beacon _ _ _ _ => Kind.beacon
  | .demand _ => Kind.demand
  | .claim _ => .claim
  | .release _ => .release
  | .clear _ => .clear
  | .slow => .slow
  | .recount _ _ => .recount
  | .report _ _ _ _ _ => .report

def Frame.kind (f : Frame) : Kind := f.body.kind

/-- The cause of a code; none above 7 (R123). -/
def causeOf (b : Byte) : Option Cause :=
  if b = 0 then some .join
  else if b = 1 then some .mismatch
  else if b = 2 then some .behind
  else if b = 3 then some .merge
  else if b = 4 then some .silence
  else if b = 5 then some .lost
  else if b = 6 then some .roster
  else if b = 7 then some .leave
  else none

/-- The station of a number byte; none above 31 (R118, R122). -/
def stationOf (b : Byte) : Option StationNo :=
  if h : b.toNat < 32 then some ⟨b.toNat, h⟩ else none

/-- The payload bytes of a frame (R119). -/
def Body.bytes : Body → List Byte
  | .beacon g d roster digest => be16 g ++ be16 d ++ be32 roster ++ be16 digest
  | .demand v => be16 v
  | .claim amount => be16 amount
  | .release v => be16 v
  | .clear n => [nat8 n.val]
  | .slow => []
  | .recount target cause => be16 target ++ [nat8 cause.code]
  | .report target weight d g digest =>
    be16 target ++ [weight.setWidth 8] ++ be16 d ++ be16 g ++ be16 digest

/-- The payload of a kind from its bytes; none for a wrong length, a spare bit set or a value out of
range (R130, checks 4 to 7). -/
def parseBody (code : Byte) (payload : List Byte) : Option Body :=
  match payload with
  | [] => if code = 6 then some .slow else none
  | [n] => if code = 5 then (stationOf n).map .clear else none
  | [a, b] =>
    if code = 2 then some (.demand (half a b))
    else if code = 3 then (if half a b = 0 then none else some (.claim (half a b)))
    else if code = 4 then some (.release (half a b))
    else none
  | [a, b, c] => if code = 7 then (causeOf c).map (.recount (half a b)) else none
  | [a, b, w, c, d, e, f, g, h] =>
    if code = 8 ∧ w.toNat < 16 ∧ w ≠ 0 then
      some (.report (half a b) (w.setWidth 4) (half c d) (half e f) (half g h))
    else none
  | [a, b, c, d, r3, r2, r1, r0, g, h] =>
    if code = 1 then some (.beacon (half a b) (half c d) (r3 ++ r2 ++ r1 ++ r0) (half g h)) else none
  | _ => none

/-! ### The frame (R117, R118) -/

/-- The header and payload bytes. -/
def Frame.content (f : Frame) : List Byte :=
  [kindCode f.kind <<< 4, nat8 f.sender.val] ++ be16 f.epoch ++ be16 f.tsn ++ f.body.bytes

/-- The bytes after the delimiter: header, payload and check. -/
def Frame.bytes (f : Frame) : List Byte := f.content ++ be16 (crc f.content)

/-- The bits of a frame, the delimiter included. -/
def Frame.bits (f : Frame) : List Bool := delimiter ++ bytesBits f.bytes

/-- The cells a frame occupies on the share line (R127, R138). -/
def Frame.cells (f : Frame) : List Cell := f.bits.map cellOf

/-- The bit times a frame occupies, the 2 of its end included (R127). -/
def Frame.lineBits (f : Frame) : Nat := 8 * (1 + 8 + payloadLength f.kind) + 2

/-- The frame in a run of header and payload bytes (R130, checks 4 to 7). -/
def parseContent (l : List Byte) : Option Frame :=
  match l with
  | k :: n :: e1 :: e0 :: t1 :: t0 :: payload =>
    if k &&& 0x0F#8 = 0 then
      match stationOf n, parseBody (k >>> 4) payload with
      | some sender, some body => some ⟨sender, half e1 e0, half t1 t0, body⟩
      | _, _ => none
    else none
  | _ => none

/-- The checks on the bytes after the delimiter (R130, checks 3 to 7). -/
def parseBytes (l : List Byte) : Option Frame :=
  if be16 (crc (l.take (l.length - 2))) = l.drop (l.length - 2) then
    parseContent (l.take (l.length - 2))
  else none

/-- The receive checks of R130: the frame of an activity that passes them all. -/
def receiveCheck (cells : List Cell) : Option Frame :=
  match cellsBits cells with
  | none => none
  | some bits =>
    if bits.take 8 = delimiter then
      match bitsBytes (bits.drop 8) with
      | none => none
      | some bytes => parseBytes bytes
    else none

/-! ### Forming a frame (R120, R126) -/

/-- The payload of a slot as it is sent; a BEACON's is read from the own table now. -/
def State.formBody (s : State) : Payload → Body
  | .beacon _ =>
    .beacon (BitVec.ofNat 16 s.gOwn) (BitVec.ofNat 16 s.dOwn) (vectorOf s.table.roster) s.digest
  | .demand v => .demand v
  | .claim amount => .claim amount
  | .release v => .release v
  | .clear n => .clear n
  | .slow => .slow
  | .recount target cause => .recount target cause
  | .report target weight demand grant digest => .report target weight demand grant digest

/-- The frame formed at the start of an attempt (R126). -/
def State.formFrame (s : State) (p : Payload) : Frame where
  sender := s.own
  epoch  := s.table.epoch
  tsn    := s.table.tsn
  body   := s.formBody p

/-! ### The level driven (R138, R140, R191) -/

/-- LDRV: high while the part drives the share line now. -/
def State.ldrvHigh (s : State) : Bool :=
  match s.line.tx with
  | .none => false
  | .jammed => false
  | .jamming till => decide (s.now < till)
  | .sending f => (halfLevels f.cells).getD ((s.now - s.line.since) / (bitTime s.line.rateCode / 2)) false

/-! ### Codes of the local port (R171, section 9.7) -/

def Status.code : Status → Byte
  | .ok => 0
  | .range => 1
  | .state => 2
  | .noEffect => 3
  | .notReady => 4
  | .unknown => 5

def StationState.code : StationState → Byte
  | .loading => 0
  | .fault => 1
  | .listen => 2
  | .member => 3
  | .isolated => 4
  | .barred => 5
  | .parked => 6

def Phase.code : Phase → Byte
  | .none => 0
  | .window => 1
  | .check => 2

def LowerCause.code : LowerCause → Byte
  | .yield => 1
  | .isolate => 2

/-- The greeting byte: 1010 and the station state code (R167). -/
def greetingByte (x : StationState) : Byte := 0xA0#8 ||| x.code

/-- A flag as the bit of weight 2^k of a byte. -/
def flagBit (k : Nat) (b : Bool) : Byte := if b then 1#8 <<< k else 0

/-- An event vector as two bytes, bits 13 to 15 clear (section 9.7). -/
def eventBytes (v : BitVec 13) : List Byte := be16 (v.setWidth 16)

/-- One of the spare bits 13 to 15 of a mask argument is set (R178). -/
def spareBits (mask : Half) : Bool := mask &&& 0xE000#16 != 0

/-! ### Answers (section 9.7) -/

/-- The flags of STATUS, byte 2. -/
def State.statusFlags (s : State) : Byte :=
  flagBit 6 s.recount.requested ||| flagBit 5 s.grant.cutoff ||| flagBit 4 s.isOver |||
    flagBit 3 s.table.suspect ||| flagBit 2 s.table.diverged |||
    flagBit 1 s.ring.deferral.isSome ||| flagBit 0 (s.ring.flow != .off)

/-- The fields of the own entry in STATUS: 0 while the station is not MEMBER (R174). -/
def State.ownFields (s : State) : List Byte :=
  if s.station.state = .member then nat16 s.gOwn ++ nat16 s.eOwn ++ nat16 s.dOwn
  else nat16 0 ++ nat16 0 ++ nat16 0

/-- Cause, target and whole milliseconds left of the lower request, 0 without one (R174). -/
def State.lowerFields (s : State) : List Byte :=
  match s.grant.lower with
  | none => [0] ++ nat16 0 ++ nat16 0
  | some r => [r.cause.code] ++ nat16 r.target ++ nat16 (msBetween s.now r.deadline)

/-- STATUS, 27 bytes. -/
def State.statusData (s : State) : List Byte :=
  [s.station.state.code, s.recount.phase.code, s.statusFlags] ++ be16 s.table.epoch ++
    be16 s.table.tsn ++ be32 (vectorOf s.table.roster) ++ nat16 s.grant.applied ++ s.ownFields ++
    nat16 s.grant.demand ++ s.lowerFields ++ [nat8 s.events.top]

/-- READ_SUMMARY, 25 bytes. -/
def State.summaryData (s : State) (b : Snapshot) : List Byte :=
  [nat8 s.table.snapNumber, flagBit 1 s.table.snapPending ||| flagBit 0 b.isOver] ++ be16 b.epoch ++
    be16 b.tsn ++ be32 (vectorOf b.roster) ++ be32 (vectorOf b.ghosts) ++ nat24 b.sum ++
    nat16 b.free ++ [nat8 b.rotor] ++ be32 (vectorOf b.starved) ++ [nat8 b.passes]

/-- The fields of an entry in READ_ENTRY, after the snapshot number; those its status does not call for
are 0 (R177). -/
def EntryView.bytes : EntryView → List Byte
  | .absent => [0, 0] ++ nat16 0 ++ nat16 0 ++ nat16 0 ++ nat16 0 ++ [0] ++ nat16 0
  | .member weight demand grant entitlement age silent confirmed =>
    [1, nat8 weight] ++ nat16 demand ++ nat16 grant ++ nat16 entitlement ++ nat16 age ++
      [flagBit 1 confirmed ||| flagBit 0 silent] ++ nat16 0
  | .ghost grant left =>
    [2, 0] ++ nat16 0 ++ nat16 grant ++ nat16 0 ++ nat16 0 ++ [0] ++ nat16 left

/-- READ_ENTRY, 14 bytes. -/
def State.entryData (s : State) (b : Snapshot) (n : Nat) : List Byte :=
  [nat8 s.table.snapNumber] ++ (b.entries.getD n .absent).bytes

/-- READ_EVENTS, 5 bytes. -/
def State.eventsData (s : State) : List Byte :=
  eventBytes s.events.flags ++ eventBytes s.events.mask ++ [nat8 s.events.top]

/-- READ_COUNTERS, 14 bytes. -/
def State.countersData (s : State) : List Byte :=
  nat16 s.events.counters.frameErrors ++ nat16 s.events.counters.staleFrames ++
    nat16 s.events.counters.mismatches ++ nat16 s.events.counters.collisions ++
    nat16 s.events.counters.abandoned ++ nat16 s.events.counters.ringOverflows ++
    nat16 s.events.counters.recounts

/-- The sixteen bytes of a record, in memory order (section 11.3). -/
def recordBytes (r : ConfigRecord) : List Byte :=
  [r.magicHi, r.magicLo, r.budgetHi, r.budgetLo, r.capHi, r.capLo, r.weight, r.rateCode,
    r.silenceExp, r.windowExp, r.slowExp, r.yieldExp, r.spare0, r.spare1, r.spare2, r.check]

/-- READ_CONFIG, 19 bytes. -/
def State.configData (s : State) (r : ConfigRecord) : List Byte :=
  recordBytes r ++ [nat8 s.own.val] ++ be16 s.digest

/-- A and H, the data of SET_DEMAND and CONFIRM (R173). -/
def State.grantData (s : State) : List Byte := nat16 s.grant.applied ++ nat16 s.grant.demand

/-- The bytes the part sends in the present transaction: the greeting, zeros while the arguments come,
then status and data; zeros after them (R167, R168). -/
def Port.misoBytes (p : Port) : List Byte :=
  match p.greeting with
  | none => []
  | some g =>
    match p.answer with
    | none => [g]
    | some a => [g] ++ List.replicate a.arguments 0 ++ [a.status.code] ++ a.data

/-- The level on MISO once SCLK has fallen `k` times in the transaction. In SPI mode 0 the first edge is a
rising one, so bit 7 of the greeting stands before the first falling edge, and each falling edge brings the
next bit: every byte most significant bit first, the status from the falling edge that follows the last rising
edge of the request, and zeros after the last data byte (R167, R168). -/
def Port.misoLevel (p : Port) (k : Nat) : Bool := (bytesBits p.misoBytes).getD k false

/-! ### The bytes and requests of a transaction (R167 to R169, section 9.3) -/

/-- The bytes that the bits sampled from MOSI complete, each at its eighth bit; a byte cut off part way is
discarded (R167, R169). -/
def completeBytes : List Bool → List Byte
  | a :: b :: c :: d :: e :: f :: g :: h :: rest => bitsByte a b c d e f g h :: completeBytes rest
  | _ => []

/-- The first byte of the arguments sent so far. -/
def byteArgument : List Byte → Option Byte
  | a :: _ => some a
  | _ => none

/-- The first two bytes of the arguments sent so far, most significant first. -/
def halfArgument : List Byte → Option Half
  | a :: b :: _ => some (half a b)
  | _ => none

/-- The request that the bytes of a transaction make once they hold its code and all its arguments; later
bytes are ignored (R168, R171, section 9.3). -/
def requestOf : List Byte → Option Instr
  | [] => none
  | code :: arguments =>
    if code = 0x01 then some .status
    else if code = 0x10 then (halfArgument arguments).map .setDemand
    else if code = 0x11 then (halfArgument arguments).map .confirm
    else if code = 0x12 then some .clearCutoff
    else if code = 0x20 then some .takeSnapshot
    else if code = 0x21 then some .readSummary
    else if code = 0x22 then (byteArgument arguments).map .readEntry
    else if code = 0x30 then some .readEvents
    else if code = 0x31 then (halfArgument arguments).map .clearEvents
    else if code = 0x32 then (halfArgument arguments).map .setMask
    else if code = 0x33 then some .readCounters
    else if code = 0x34 then some .clearCounters
    else if code = 0x40 then some .leave
    else if code = 0x41 then some .join
    else if code = 0x4E then some .restart
    else if code = 0x50 then some .readConfig
    else some (.unknownRequest code)

/-- The bytes by which the host sends a request (section 9.3); none for a command of another agent. -/
def requestBytes : Instr → List Byte
  | .status => [0x01]
  | .setDemand v => 0x10 :: be16 v
  | .confirm v => 0x11 :: be16 v
  | .clearCutoff => [0x12]
  | .takeSnapshot => [0x20]
  | .readSummary => [0x21]
  | .readEntry n => [0x22, n]
  | .readEvents => [0x30]
  | .clearEvents mask => 0x31 :: be16 mask
  | .setMask mask => 0x32 :: be16 mask
  | .readCounters => [0x33]
  | .clearCounters => [0x34]
  | .leave => [0x40]
  | .join => [0x41]
  | .restart => [0x4E]
  | .readConfig => [0x50]
  | .unknownRequest code => [code]
  | _ => []

/-- The request that a rising edge sampling `bit` completes in a transaction whose earlier bits are `bits`:
a request is taken once, at its last bit (R167, R168). -/
def requestTakenAt (bits : List Bool) (bit : Bool) : Option Instr :=
  match requestOf (completeBytes bits) with
  | some _ => none
  | none => requestOf (completeBytes (bits ++ [bit]))

/-! ### The configuration record (R194, R196) -/

/-- The seven bytes the digest covers, in order (R196). -/
def digestBytes (r : ConfigRecord) : List Byte :=
  [r.budgetHi, r.budgetLo, r.rateCode, r.silenceExp, r.windowExp, r.slowExp, r.yieldExp]

/-- The digest of a record (R196). -/
def recordDigest (r : ConfigRecord) : Half := crc (digestBytes r)

/-- The sum of a run of bytes. -/
def byteSum (l : List Byte) : Nat := l.foldr (fun b n => b.toNat + n) 0

/-- The least window exponent of a rate code (section 11.3). -/
def leastWindow (rateCode : Nat) : Nat := 7 - rateCode

/-- A record whose every field holds an allowed value (R194). -/
abbrev recordValid (r : ConfigRecord) : Prop :=
  r.magicHi = 0x0F#8 ∧ r.magicLo = 0x3A#8 ∧ byteSum (recordBytes r) % 256 = 0 ∧
  r.spare0 = 0 ∧ r.spare1 = 0 ∧ r.spare2 = 0 ∧
  1 ≤ beNat r.budgetHi r.budgetLo ∧
  beNat r.capHi r.capLo ≤ beNat r.budgetHi r.budgetLo ∧
  1 ≤ r.weight.toNat ∧ r.weight.toNat ≤ 15 ∧
  r.rateCode.toNat ≤ 3 ∧
  6 ≤ r.silenceExp.toNat ∧ r.silenceExp.toNat ≤ 12 ∧
  3 ≤ r.windowExp.toNat ∧ r.windowExp.toNat ≤ 10 ∧
  leastWindow r.rateCode.toNat ≤ r.windowExp.toNat ∧
  r.slowExp.toNat ≤ 10 ∧ r.slowExp.toNat ≤ r.silenceExp.toNat - 2 ∧
  4 ≤ r.yieldExp.toNat ∧ r.yieldExp.toNat ≤ 14

end Sys2Proof.Machine
end

