-- ==== Sys2Proof/Machine/ConfigBus.lean ====
section
/-! DEFINITION. The two-wire bus to the configuration memory (11 R193): what the part drives in a read attempt,
step by step, and how what the memory does ends the attempt. -/

namespace Sys2Proof.Machine

/-! ### What the part does (R193, steps 1 to 4) -/

/-- One part of a read attempt: a start or repeated start condition, a byte to the memory, a byte from it that
the part acknowledges or not, and the stop condition. -/
inductive BusStep where
  | start
  | send (b : Byte)
  | receive (acknowledge : Bool)
  | stop
deriving DecidableEq, Repr

/-- The first byte after a start condition: the device address 1010000, then the direction. -/
def deviceByte (read : Bool) : Byte := bitsByte true false true false false false false read

/-- A read attempt, in order: the device address with the write direction and the word address 00; a repeated
start and the device address with the read direction; sixteen bytes, the last one unacknowledged; stop. -/
def readAttempt : List BusStep :=
  [.start, .send (deviceByte false), .send 0x00, .start, .send (deviceByte true)] ++
    List.replicate 15 (.receive true) ++ [.receive false, .stop]

/-- CFG_SDA as the part leaves it in each of the nine clocks of a byte: true where it is released. A byte to the
memory goes most significant bit first, and its ninth clock is the memory's; a byte from it leaves the ninth
clock to the part, which pulls the line low to acknowledge. Start and stop conditions have no clock. -/
def BusStep.sdaReleased : BusStep → List Bool
  | .send b => bytesBits [b] ++ [true]
  | .receive acknowledge => List.replicate 8 true ++ [!acknowledge]
  | _ => []

/-- A clock of CFG_SCL at 100 kHz: 10 microseconds. -/
def busClock : Time := 20

/-! ### What the memory does -/

/-- What the memory does in one part of an attempt: for how long it holds SCL low, whether SDA is low where the
part would begin a start condition, whether it acknowledges, and the byte it drives. -/
structure BusAnswer where
  held        : Time
  sdaLow      : Bool
  acknowledge : Bool
  byte        : Byte
deriving DecidableEq, Repr

/-- The memory fails this part of the attempt: SDA low at a start condition, or no acknowledge (R193). -/
def BusStep.failsOn (x : BusStep) (a : BusAnswer) : Bool :=
  match x with
  | .start => a.sdaLow
  | .send _ => !a.acknowledge
  | _ => false

/-- The bytes read, with the one of this part. -/
def BusStep.readInto (x : BusStep) (a : BusAnswer) (bytes : List Byte) : List Byte :=
  match x with
  | .receive _ => bytes ++ [a.byte]
  | _ => bytes

/-- Sixteen bytes in memory order as the configuration record (R193, section 11.3). -/
def recordOf (l : List Byte) : ConfigRecord where
  magicHi := l.getD 0 0
  magicLo := l.getD 1 0
  budgetHi := l.getD 2 0
  budgetLo := l.getD 3 0
  capHi := l.getD 4 0
  capLo := l.getD 5 0
  weight := l.getD 6 0
  rateCode := l.getD 7 0
  silenceExp := l.getD 8 0
  windowExp := l.getD 9 0
  slowExp := l.getD 10 0
  yieldExp := l.getD 11 0
  spare0 := l.getD 12 0
  spare1 := l.getD 13 0
  spare2 := l.getD 14 0
  check := l.getD 15 0

/-- The command with which the parts `steps` of an attempt end, the memory doing `answers` and `bytes` having
been read: a hold of SCL of more than 1 ms, another failure, or sixteen bytes; none while it goes on (R193). -/
def busEnds : List BusStep → List BusAnswer → List Byte → Option Instr
  | [], _, bytes => some (.readAttemptComplete (recordOf bytes))
  | _, [], _ => none
  | x :: steps, a :: answers, bytes =>
    if ms 1 < a.held then some .sclHoldTimeout
    else if x.failsOn a = true then some .readAttemptFailed
    else busEnds steps answers (x.readInto a bytes)

/-- CFG_SDA is released by the part in clock `clock` of part `part` of an attempt; outside an attempt always
(R191, R193). -/
def State.sdaReleasedIn (s : State) (part clock : Nat) : Bool :=
  s.cfgSdaReleased || ((readAttempt.getD part .stop).sdaReleased.getD clock true)

end Sys2Proof.Machine
end

