-- ==== Sys2Proof/Machine/Standing.lean ====
section
/-! DEFINITION. The standing conditions of the blocks that want frames sent, looked at again at the end of
each command that can change what they depend on or free a slot (R27, R51, R56, R57, R154, R163; log 10). -/

namespace Sys2Proof.Machine

/-! ### What each block asks for -/

/-- A block keeps `p` in the queue: it asks unless the slot of that kind carries `p` as its latest value
(R56, R57). -/
def State.keep (s : State) (p : Payload) : State :=
  match slotOf p.kind s.queue with
  | none => s.enqueue p
  | some sl => if sl.latest = p then s else s.enqueue p

/-- The RELEASE of a station that holds more grant than it applies (R57). -/
def State.releaseAgent (s : State) : State :=
  if s.settled ∧ s.grant.applied < s.gOwn then
    s.keep (.release (BitVec.ofNat 16 s.grant.applied))
  else s

/-- The flow hold finds that its SLOW has left the queue without completing (R163; log 24). -/
def State.slowAgent (s : State) : State :=
  if s.ring.flow = .sending ∧ ¬ s.holds .slow then
    if 6 < s.ring.entries.length then s.enqueue .slow
    else s.withRing { s.ring with flow := .off }
  else s

/-- The DEMAND of a station whose H is not the recorded demand (R56). -/
def State.demandAgent (s : State) : State :=
  if s.settled ∧ s.grant.demand ≠ s.dOwn then
    s.keep (.demand (BitVec.ofNat 16 s.grant.demand))
  else s

/-- Entry `n` is an expired ghost (R26). -/
def Table.expired (t : Table) (n : StationNo) : Bool :=
  (t.ghost? n).any fun g => decide (g.timer = none)

/-- The expired ghost of lowest station number (R27). -/
def Table.lowestExpired (t : Table) : Option StationNo := stations.find? t.expired

/-- The CLEAR of an expired ghost (R27). R27 asks by the queue alone, and also says that the next CLEAR follows
when the last is applied or withdrawn; the model goes by the queue, so that a CLEAR may be queued while the
loopback of the one before it waits in the ring (log 35). -/
def State.clearAgent (s : State) : State :=
  if s.settled ∧ ¬ s.holds .clear then
    match s.table.lowestExpired with
    | none => s
    | some n => s.enqueue (.clear n)
  else s

/-- The demand a claim goes by: the smaller of H and d_own, and while the Share Engine has yet to recompute the
entitlements from an own DEMAND, no more than the demand recorded before it (R50; log 38). -/
def State.claimDemand (s : State) : Nat := min (min s.grant.demand s.dOwn) s.grant.sharedDemand

/-- The claim target T (R50), with E_own and the starved set of the last notice (R47). -/
def State.claimTarget (s : State) : Nat :=
  if s.othersStarved then min s.claimDemand s.grant.seen.entitlement else s.claimDemand

/-- An own CLAIM has completed and its loopback waits in the ring (log 9). -/
abbrev State.claimInRing (s : State) : Prop :=
  (s.ring.entries.any fun e => e.own && match e.frame.body with | .claim _ => true | _ => false) = true

/-- The conditions of R51, with the one of log 9. -/
abbrev State.mayClaim (s : State) : Prop :=
  s.settled ∧ s.table.suspect = false ∧ s.table.diverged = false ∧
  s.recount.requested = false ∧ s.recount.causes.empty ∧
  s.grant.cutoff = false ∧ s.grant.lower = none ∧ s.grant.applied = s.gOwn ∧
  s.grant.backoff = false ∧ ¬ s.holds .claim ∧ ¬ s.claimInRing ∧
  0 < s.free ∧ s.gOwn < s.claimTarget

/-- The claim agent (R51). -/
def State.claimAgent (s : State) : State :=
  if s.mayClaim then s.enqueue (.claim (BitVec.ofNat 16 (s.claimTarget - s.gOwn))) else s

/-! ### When they ask (R154) -/

/-- A slot has been freed: every block looks again at its standing conditions, in the order of standing of
their kinds (R146, R154; log 10). -/
def State.lookAgain (s : State) : State :=
  if s.station.state = .member then
    s.releaseAgent.slowAgent.demandAgent.clearAgent.claimAgent
  else s

/-- What the RELEASE depends on (R57). -/
def State.releaseItems (s : State) : Bool × Nat × Nat :=
  (decide s.settled, s.grant.applied, s.gOwn)

/-- What the DEMAND depends on (R56). -/
def State.demandItems (s : State) : Bool × Nat × Nat :=
  (decide s.settled, s.grant.demand, s.dOwn)

/-- What the CLEAR depends on, the queue left aside (R27). -/
def State.clearItems (s : State) : Bool × Option StationNo :=
  (decide s.settled, s.table.lowestExpired)

/-- What the CLAIM depends on, the queue left aside (R50, R51; log 9). -/
structure ClaimItems where
  settled   : Bool
  suspect   : Bool
  diverged  : Bool
  requested : Bool
  causes    : PendingCauses
  grant     : Grant
  gOwn      : Nat
  dOwn      : Nat
  free      : Nat
  inRing    : Bool
deriving DecidableEq, Repr

def State.claimItems (s : State) : ClaimItems where
  settled   := decide s.settled
  suspect   := s.table.suspect
  diverged  := s.table.diverged
  requested := s.recount.requested
  causes    := s.recount.causes
  grant     := s.grant
  gOwn      := s.gOwn
  dOwn      := s.dOwn
  free      := s.free
  inRing    := decide s.claimInRing

/-- Each block whose own items have changed since `before` looks at its condition (R51, R56, R57, R154). -/
def State.lookChanged (s before : State) : State :=
  let s1 := if s.releaseItems = before.releaseItems then s else s.releaseAgent
  let s2 := if s.demandItems = before.demandItems then s1 else s1.demandAgent
  let s3 := if s.clearItems = before.clearItems then s2 else s2.clearAgent
  if s.claimItems = before.claimItems then s3 else s3.claimAgent

/-- A RELEASE that waits is withdrawn when A comes to equal g_own (R57). -/
def State.releaseMet (s before : State) : State :=
  if before.grant.applied < before.gOwn ∧ s.gOwn ≤ s.grant.applied then s.withdrawWaiting .release
  else s

/-- When H comes to equal d_own a DEMAND that waits is withdrawn; one that is ON_LINE stays, with the changed
H of a settled station as its follow-on value (R56; log 34). -/
def State.demandMet (s before : State) : State :=
  if before.grant.demand ≠ before.dOwn ∧ s.grant.demand = s.dOwn then
    if s.settled ∧ s.grant.demand ≠ before.grant.demand ∧ s.holds .demand then
      (s.enqueue (.demand (BitVec.ofNat 16 s.grant.demand))).withdrawWaiting .demand
    else s.withdrawWaiting .demand
  else s

/-- A slot of a kind that `before` held has been freed; a flush and the end of a flushed attempt are reported
to no block (R153, R154). -/
abbrev State.freedSince (s before : State) : Prop :=
  (before.queue.any fun sl => !sl.flushed && (slotOf sl.kind s.queue).isNone) = true

/-- The end of a command taken in state `before`, at which Grant Control, the Table Unit and the flow hold
look at their conditions: all of them if a slot has been freed, `freed` saying so where the slot was filled
again at once, and otherwise each one whose own items have changed. A slot that one of them frees to make
room is a freed slot too (R152, R154; log 10). -/
def State.lookAfter (s before : State) (freed : Bool) : State :=
  if s.station.state = .member then
    let s1 := (s.releaseMet before).demandMet before
    if freed = true ∨ s1.freedSince before then s1.lookAgain
    else
      let s2 := s1.lookChanged before
      if s2.freedSince s1 then s2.lookAgain else s2
  else s

end Sys2Proof.Machine
end

