-- ==== Sys2Proof/Machine/LineOps.lean ====
section
/-! DEFINITION. Arrival of a frame (R131, R132, R156 to R165, R110) and the states of the share line
(R137 to R141). -/

namespace Sys2Proof.Machine

/-! ### The flow hold's other side (R165) -/

/-- A SLOW of another station moves the deferral expiry to now + T_slow, if that is later (R165). -/
def State.honourSlow (s : State) : State :=
  s.withRing { s.ring with
    deferral := some (max (s.ring.deferral.getD 0) (s.after s.tSlow)) }

/-! ### The watch in ISOLATED (R110) -/

/-- The digest a frame carries, if its kind carries one (R136). -/
def Body.digest? : Body → Option Half
  | .beacon _ _ _ digest => some digest
  | .report _ _ _ _ digest => some digest
  | _ => none

/-- A frame of another station under the own number (R112). -/
abbrev State.duplicate (s : State) (f : Frame) (own : Bool) : Prop := f.sender = s.own ∧ own = false

/-- A frame with a digest that differs from the own (R113). -/
abbrev State.conflict (s : State) (f : Frame) : Prop :=
  (f.body.digest?.any fun d => decide (d ≠ s.digest)) = true

/-- The watch: in ISOLATED a duplicate or a conflict asks for BARRED (R110). -/
def State.watch (s : State) (f : Frame) (own : Bool) : State :=
  if s.station.state = .isolated ∧ (s.duplicate f own ∨ s.conflict f) then s.requestBarred else s

/-! ### The ring (R156 to R162) -/

/-- A frame is stored at the newest end; a MEMBER whose flow hold is OFF asks for a SLOW when fewer than
4 places are left (R156, R162). -/
def State.store (s : State) (f : Frame) (own : Bool) : State :=
  (s.withRing { s.ring with entries := s.ring.entries ++ [⟨f, own⟩] }).lookFlow

/-- A dropped own RECOUNT counts as taken for the requested flag (R159). -/
def State.droppedRecount (s : State) (f : Frame) (own : Bool) : State :=
  if f.kind = .recount ∧ own = true then s.recountBack else s

/-- The LOST cause of a drop: in MEMBER, phase NONE or CHECK (R76). -/
def State.lostCause (s : State) : State := if s.working then s.giveCause .lost else s

/-- A frame is dropped at a full ring (R158, R159, R76). Requested is cleared for a dropped own RECOUNT
before the LOST cause of the same drop is acted on: the model's choice, the manual giving no order
(log 33). -/
def State.drop (s : State) (f : Frame) (own : Bool) : State :=
  let s1 := (s.withRing { s.ring with lost := true }).raise .ringOverflow
  (s1.countRingOverflow.droppedRecount f own).lostCause

/-- The ring is given a frame (R156, R158). It is stored before the watch sees it, so an entry to BARRED clears
it away with the rest: the model's choice, the manual giving no order (log 37). A dropped frame the watch does
not see (log 15). -/
def State.offer (s : State) (f : Frame) (own : Bool) : State :=
  if s.station.state = .parked then s
  else if s.ring.entries.length < 16 then (s.store f own).watch f own
  else s.drop f own

/-- A valid frame is handed on at its arrival (R132). -/
def State.handOn (s : State) (f : Frame) (own : Bool) : State :=
  if f.kind = .slow then
    if own = true then s else s.honourSlow.watch f own
  else s.offer f own

/-! ### Rejection (R131) -/

/-- A frame that fails the receive checks (R131, R7). -/
def State.reject (s : State) : State := (s.raise .frameError).countFrameError.setSuspect

/-! ### Line states (R137 to R141) -/

/-- The Line Interface enters state `x` now. -/
def State.lineBecomes (s : State) (x : LineState) (tx : Tx) : State :=
  s.withLine { s.line with state := x, since := s.now, tx := tx }

/-- An activity begins: the line is BUSY, and the idle count and the backoff counting stop
(R138, R142, R143). -/
def State.beginActivity (s : State) : State :=
  (s.withQueue (stopCounting s.queue)).lineBecomes .busy .none

/-- An activity that begins is assumed where none was announced (log 27). -/
def State.ensureActivity (s : State) : State :=
  if s.line.state = .idle then s.beginActivity else s

/-- The line is IDLE or BUSY and the station is not transmitting. -/
abbrev State.receiving (s : State) : Prop :=
  (s.line.state = .idle ∨ s.line.state = .busy) ∧ s.line.tx = .none

/-- The slot that was ON_LINE is freed; its follow-on value fills it again as a new frame (R149). -/
def State.freeOnLine (s : State) (sl : Slot) : State :=
  let s1 := s.withQueue (freeSlot sl.kind s.queue)
  match sl.followOn with
  | none => s1
  | some p => s1.withQueue (s1.queue ++ [Slot.fresh s.now p])

end Sys2Proof.Machine
end

