-- ==== Sys2Proof/Machine/Start.lean ====
section
/-! DEFINITION. The start of the part (11_configuration_and_start.md, 10 section 10.4): reset, straps, the
read of the configuration memory, the start of the Line Interface. -/

namespace Sys2Proof.Machine

/-- A command changes nothing while RESETN is low (R191; log 8). -/
def State.outOfReset (s : State) (t : State) : State := if s.resetLow = true then s else t

/-- A read attempt is in progress (R193). -/
abbrev State.reads (s : State) : Prop := s.station.state = .loading ∧ s.loader.reading = .attempt

/-- A read attempt in which the memory does `answers` ends: its command joins the waiting ones; nothing happens
while the attempt goes on, or where none is in progress (R193; log 20). -/
def State.busAttempt (s : State) (answers : List BusAnswer) : State :=
  if s.reads then
    match busEnds readAttempt answers [] with
    | none => s
    | some c => s.withPending (s.pending ++ [c])
  else s

/-- Entry to FAULT: the Loader raises CONFIG_FAULT (R197). -/
def State.enterFault (s : State) : State :=
  (s.withStation { s.station with state := .fault }).raise .configFault

/-- A read ends with sixteen bytes: record and digest are held, whether or not the checks pass
(R193, R196). -/
def State.holdRecord (s : State) (r : ConfigRecord) : State :=
  s.withLoader { s.loader with record := some r, digest := some (recordDigest r), reading := .off }

/-- The checks of R194 end LOADING (R197). -/
def State.judgeRecord (s : State) (r : ConfigRecord) : State :=
  if recordValid r then
    ((s.holdRecord r).withLoader { (s.holdRecord r).loader with recordValid := true }).leaveLoading
  else (s.holdRecord r).enterFault

/-- A read attempt fails: a third failure ends the read, an earlier one waits 1 ms (R193). -/
def State.attemptFails (s : State) : State :=
  if s.loader.attempts + 1 < 3 then
    s.withLoader { s.loader with attempts := s.loader.attempts + 1, reading := .waiting (s.after 1) }
  else
    (s.withLoader { s.loader with attempts := s.loader.attempts + 1, reading := .off }).enterFault

/-- POWER_RESET (R191). -/
def execPowerReset (s : State) : Host.Outcome State Fault Refusal := .next s.powerReset

/-- RESET_RELEASE: the straps are sampled, the read begins, and with CSN high the port is IDLE
(R170, R192, R193, R197). -/
def execResetRelease (straps : BitVec 5) (s : State) : Host.Outcome State Fault Refusal :=
  .next (if s.resetLow = true then
      ({ s with resetLow := false }.withLoader { s.loader with
          stationNumber := straps.toFin, reading := .attempt }).withPort { s.port with
        state := if s.csnHigh = true then .idle else .spent }
    else s)

/-- READ_ATTEMPT_COMPLETE (R193, R194, R196, R197). -/
def execReadAttemptComplete (bytes : ConfigRecord) (s : State) : Host.Outcome State Fault Refusal :=
  .next (s.outOfReset (if s.reads then s.judgeRecord bytes else s))

/-- READ_ATTEMPT_FAILED (R193). -/
def execReadAttemptFailed (s : State) : Host.Outcome State Fault Refusal :=
  .next (s.outOfReset (if s.reads then s.attemptFails else s))

/-- SCL_HOLD_TIMEOUT: the attempt fails like any other (R193). -/
def execSclHoldTimeout (s : State) : Host.Outcome State Fault Refusal :=
  .next (s.outOfReset (if s.reads then s.attemptFails else s))

/-- READ_RETRY_WAIT_EXPIRY: a new attempt from its first step (R193). -/
def execReadRetryWaitExpiry (s : State) : Host.Outcome State Fault Refusal :=
  .next (s.outOfReset
    (match s.loader.reading with
    | .waiting till => (s.reach till).withLoader { s.loader with reading := .attempt }
    | _ => s))

/-- LINE_STARTUP_SETTLED: IDLE with idle time 0 after 2 bit times of released line (R137). -/
def execLineStartupSettled (s : State) : Host.Outcome State Fault Refusal :=
  .next (s.outOfReset
    (if s.line.state = .starting then
      (s.reach (s.line.since + s.bits 2)).lineBecomes .idle .none
    else s))

end Sys2Proof.Machine
end

