-- ==== Sys2Proof/Machine/Line.lean ====
section
/-! DEFINITION. The share line (06_frames.md, 07_line_access_and_the_transmit_queue.md): received frames,
starts, backoff, collisions and completions. -/

namespace Sys2Proof.Machine

/-! ### Starting an attempt (R126, R148, R149) -/

/-- A slot starts: ON_LINE with one more attempt, up to 16 (R149). -/
def Slot.started (sl : Slot) : Slot :=
  { sl with state := .onLine, attempts := min 16 (sl.attempts + 1) }

/-- The chosen slot starts now: its frame is formed and driven (R126, R149). -/
def State.startSlot (s : State) (sl : Slot) : State :=
  (s.withQueue (stopCounting (updateSlot sl.kind Slot.started s.queue))).lineBecomes .busy
    (.sending (s.formFrame sl.payload))

/-- The line is IDLE and nothing of the station's own is on it. -/
abbrev State.lineFree (s : State) : Prop := s.line.state = .idle ∧ s.line.tx = .none

/-- A start falls due at moment `t` (R148). -/
def State.startAt (s : State) (t : Time) : State :=
  match s.chosenAt t with
  | none => s
  | some sl => (s.reach t).startSlot sl

/-! ### Backoff (R143) -/

/-- One backoff slot less: QUEUED at 0 (R143). -/
def Slot.waited (sl : Slot) : Slot :=
  if sl.backoffLeft ≤ 1 then { sl with state := .queued, backoffLeft := 0, counted := 0 }
  else { sl with backoffLeft := sl.backoffLeft - 1, counted := sl.counted + 1 }

/-! ### The end of a collision (R141, R143, R150, R151) -/

/-- A slot to be tried again: the follow-on value becomes the payload, and the draw `k` its backoff
(R143, R150). -/
def Slot.retried (k : Nat) (sl : Slot) : Slot :=
  { sl with
    payload := sl.latest
    followOn := none
    state := if k = 0 then .queued else .backoff
    backoffLeft := k
    counted := 0 }

/-- The draw of the backoff generator that comes next, for a slot with `attempts` attempts (R143). -/
def State.nextDraw (s : State) (attempts : Nat) : Nat :=
  boundedDraw (Config.backoffDraw s.own s.line.draws) attempts

/-- A backoff is drawn and the slot waits (R143, R150). -/
def State.backOff (s : State) (sl : Slot) : State :=
  (s.withQueue (updateSlot sl.kind (Slot.retried (s.nextDraw sl.attempts)) s.queue)).withLine
    { s.line with draws := s.line.draws + 1 }

/-- The cause of a RECOUNT payload. -/
def Payload.cause? : Payload → Option Cause
  | .recount _ c => some c
  | _ => none

/-- An abandoned own RECOUNT is requested again with the cause of its latest value (R73). -/
def State.recountAbandoned (s : State) (sl : Slot) : State :=
  match sl.latest.cause? with
  | none => s
  | some c =>
    if s.takesPart then
      (s.withRecount { s.recount with requested := false }).requestRecount c
    else s.withRecount { s.recount with requested := false }

/-- The Station Controller counts an abandonment; the second in a row asks for ISOLATED (R108). -/
def State.countAbandonment (s : State) : State :=
  if s.takesPart then
    if s.station.abandonments = 0 then s.withStation { s.station with abandonments := 1 }
    else s.requestIsolated
  else s

/-- A slot is abandoned (R151). -/
def State.abandon (s : State) (sl : Slot) : State :=
  let s1 := (s.withQueue (freeSlot sl.kind s.queue)).raise .abandoned
  (s1.countAbandoned.recountAbandoned sl).countAbandonment

/-- What becomes of the slot whose attempt ended in the jam (R150); a flushed one is freed whatever was
asked for since (R153, log 13). -/
def State.jamOutcome (s : State) (sl : Slot) : State :=
  if sl.flushed = true then s.freeOnLine sl
  else if sl.finishing = true then s.withQueue (freeSlot sl.kind s.queue)
  else if sl.kind ≠ .release ∧ sl.attempts = 16 then s.abandon sl
  else s.backOff sl

/-- The end of jam frees the slot, and reports so: it is finishing or abandoned (R150, R151, R154), and no
flush has reached it (R153). -/
def Slot.freedByJam (sl : Slot) : Bool :=
  !sl.flushed && (sl.finishing || (sl.kind != .release && sl.attempts == 16))

/-- The attempt that ended in the jam frees its slot. -/
def State.jamFrees (s : State) : Bool := (onLineSlot s.queue).any Slot.freedByJam

/-- The own attempt that ended in the jam is counted and reported (R141, R150). -/
def State.reportJam (s : State) : State :=
  match onLineSlot s.queue with
  | none => s.countCollision
  | some sl => s.countCollision.jamOutcome sl

/-! ### Completion (R93, R106, R108, R134, R149, R163) -/

/-- A running beacon timer restarts, and the abandonment count is 0 (R106, R108). A BEACON refused for want of a
slot is not asked for again here, as R154 says, where R106 lets a completion try again (log 36). -/
def State.beaconRestarted (s : State) : State :=
  s.withStation { s.station with
    abandonments := 0
    beaconTimer := s.station.beaconTimer.map fun _ => s.after s.tBeacon }

/-- The completion of a SLOW starts the own slow timer (R163). -/
def State.slowCompleted (s : State) : State :=
  if s.ring.flow = .sending then
    s.withRing { s.ring with flow := .holding, slowTimer := some (s.after s.tSlow) }
  else s

/-- The completion of a RECOUNT carrying LEAVE parks a MEMBER with A and g_own at 0 (R93, R115). -/
def State.leaveCompleted (s : State) : State :=
  if s.station.state = .member ∧ s.grant.applied = 0 ∧ s.gOwn = 0 then s.enterParked else s

/-- What the completion of the attempt of slot `sl` does at the other blocks (R149); after a flush it is
reported to none (R153). -/
def State.reportCompletion (s : State) (sl : Slot) : State :=
  if sl.flushed = true then s
  else
    let s1 := if s.takesPart then s.beaconRestarted else s
    match sl.payload with
    | .slow => s1.slowCompleted
    | .recount _ .leave => s1.leaveCompleted
    | _ => s1

/-- The own frame `f` has reached its end of frame: completion first, then the loopback, then the standing
conditions, the slot having been freed (R134, R149, R154). -/
def State.complete (s : State) (f : Frame) : State :=
  let s1 := s.lineBecomes .idle .none
  match onLineSlot s1.queue with
  | none => (s1.handOn f true).lookAfter s false
  | some sl => (((s1.freeOnLine sl).reportCompletion sl).handOn f true).lookAfter s (!sl.flushed)

/-! ### The commands -/

/-- LINE_ACTIVITY_START (R138, R142, R143); in the start of the Line Interface the wait for released line
begins again (R137). -/
def execLineActivityStart (s : State) : Host.Outcome State Fault Refusal :=
  .next (s.outOfReset
    (if s.line.state = .idle then s.beginActivity
    else if s.line.state = .starting then s.withLine { s.line with since := s.now }
    else s))

/-- The end of frame of a received activity of `n` cells: 2 bit times after the last (R139). -/
def State.activityEnds (s : State) (n : Nat) : State :=
  (s.ensureActivity.reach (s.ensureActivity.line.since + s.bits (n + 2))).lineBecomes .idle .none

/-- FRAME_RECEIVED (R129 to R133). -/
def execFrameReceived (cells : List Cell) (s : State) : Host.Outcome State Fault Refusal :=
  .next (s.outOfReset
    (if s.receiving then
      match receiveCheck cells with
      | none => (s.activityEnds cells.length).reject.lookAfter s false
      | some f => ((s.activityEnds cells.length).handOn f false).lookAfter s false
    else s))

/-- SLOT_START (R126, R140, R148, R149). -/
def execSlotStart (s : State) : Host.Outcome State Fault Refusal :=
  .next (s.outOfReset
    (if s.lineFree then
      match s.startMoment with
      | none => s
      | some t => s.startAt t
    else s))

/-- BACKOFF_SLOT_EXPIRY (R143). -/
def execBackoffSlotExpiry (k : Kind) (s : State) : Host.Outcome State Fault Refusal :=
  .next (s.outOfReset
    (match slotOf k s.queue with
    | none => s
    | some sl =>
      if s.lineFree ∧ sl.state = .backoff then
        (s.reach (s.backoffDue sl)).withQueue (updateSlot k Slot.waited s.queue)
      else s))

/-- READ_BACK_MISMATCH: the frame stops and the jam of 8 bit times begins (R140). -/
def execReadBackMismatch (s : State) : Host.Outcome State Fault Refusal :=
  .next (s.outOfReset
    (match s.line.tx with
    | .sending _ => s.withLine { s.line with tx := .jamming (s.now + s.bits 8) }
    | _ => s))

/-- The earliest moment at which the present activity can have driven the line for 2 bit times (R141). -/
def State.jamMoment (s : State) : Time := s.line.since + s.bits 2

/-- LINE_STATE_JAM (R141). -/
def execLineStateJam (s : State) : Host.Outcome State Fault Refusal :=
  .next (s.outOfReset
    (if s.receiving then
      let s1 := s.ensureActivity
      (s1.reach s1.jamMoment).lineBecomes .jam .none
    else
      match s.line.state, s.line.tx with
      | .busy, .jamming till => (s.reach s.jamMoment).lineBecomes .jam (.jamming till)
      | .busy, .jammed => s.lineBecomes .jam .jammed
      | _, _ => s))

/-- JAM_DRIVE_END (R140). -/
def execJamDriveEnd (s : State) : Host.Outcome State Fault Refusal :=
  .next (s.outOfReset
    (match s.line.tx with
    | .jamming till => (s.reach till).withLine { s.line with tx := .jammed }
    | _ => s))

/-- END_OF_JAM (R141, R150, R154): IDLE with idle time 0; an own attempt is counted and reported; where its
slot is freed the blocks look again, and where it is only tried again they do not. -/
def execEndOfJam (s : State) : Host.Outcome State Fault Refusal :=
  .next (s.outOfReset
    (if s.line.state = .jam then
      match s.line.tx with
      | .jammed => ((s.lineBecomes .idle .none).reportJam).lookAfter s s.jamFrees
      | .none => s.lineBecomes .idle .none
      | _ => s
    else s))

/-- The moment of the end of frame of the own frame `f` (R127, R139; log 14). -/
def State.frameEnd (s : State) (f : Frame) : Time := s.line.since + s.bits f.lineBits

/-- OWN_FRAME_COMPLETION (R134, R149, R154). -/
def execOwnFrameCompletion (s : State) : Host.Outcome State Fault Refusal :=
  .next (s.outOfReset
    (match s.line.tx with
    | .sending f => (s.reach (s.frameEnd f)).complete f
    | _ => s))

end Sys2Proof.Machine
end

