-- ==== Sys2Proof/Machine/LocalPort.lean ====
section
/-! DEFINITION. The Local Port (09_local_port.md): transactions and the sixteen requests. -/

namespace Sys2Proof.Machine

/-! ### Taking a request (R168, R170 to R172) -/

/-- A request can be taken: its transaction is in COLLECTING and the part out of reset (R168, R170). -/
abbrev State.collecting (s : State) : Prop := s.port.state = .collecting ∧ s.resetLow = false

/-- What a request makes of the state, if it can be taken at all (log 5). -/
def State.taken (s : State) (t : State) : State := if s.collecting then t else s

/-- The port answers: status and data are fixed (R168, R170). -/
def State.answer (s : State) (arguments : Nat) (status : Status) (data : List Byte) : State :=
  s.withPort { s.port with state := .answering, answer := some ⟨arguments, status, data⟩ }

/-- Neither LOADING nor FAULT, where R172 refuses the requests that act. -/
abbrev State.loaded (s : State) : Prop := s.station.state ≠ .loading ∧ s.station.state ≠ .fault

/-! ### Grant Control's part (R48, R49, R66) -/

/-- SET_DEMAND within the station cap (R48). -/
def State.demandSet (s : State) (v : Nat) : State :=
  let s1 := s.withGrant { s.grant with demand := v }
  if v < s.grant.applied then (s1.lowerApplied v).lookAfter s false else s1.lookAfter s false

/-- CONFIRM that lowers A (R49). -/
def State.confirmed (s : State) (v : Nat) : State := (s.lowerApplied v).lookAfter s false

/-- CLEAR_CUTOFF that deasserts (R66). -/
def State.cutoffCleared (s : State) : State :=
  (s.withGrant { s.grant with cutoff := false }).lookAfter s false

/-! ### Transactions (R167, R169, R170) -/

/-- The first falling edge of SCLK in a transaction reads the station state for the greeting (R167). -/
def State.sclkFirstFall (s : State) : State :=
  if s.collecting then s.withPort { s.port with greeting := some (greetingByte s.station.state) } else s

/-- TRANSACTION_BEGIN: CSN falls, the transaction begins and the greeting is sent, its station state read at
the first falling edge, which is in this step (R167, R170; log 21). -/
def execTransactionBegin (s : State) : Host.Outcome State Fault Refusal :=
  .next (if s.resetLow = false ∧ s.port.state = .idle then
      ({ s with csnHigh := false }.withPort ⟨.collecting, none, none⟩).sclkFirstFall
    else { s with csnHigh := false })

/-- A rising edge of SCLK samples `bit` after `bits`: the request it completes joins the waiting commands;
while CSN is high, or with no request to be taken, nothing happens (R167, R168, R170; log 21). -/
def State.sclkRise (s : State) (bits : List Bool) (bit : Bool) : State :=
  if s.csnHigh = false ∧ s.collecting then
    match requestTakenAt bits bit with
    | none => s
    | some c => s.withPending (s.pending ++ [c])
  else s

/-- TRANSACTION_END: CSN rises; what was not taken is discarded, what was not sent is dropped
(R169, R170). -/
def execTransactionEnd (s : State) : Host.Outcome State Fault Refusal :=
  .next (if s.resetLow = true then { s with csnHigh := true }
    else { s with csnHigh := true }.withPort ⟨.idle, none, none⟩)

/-- LAST_DATA_BYTE_SENT (R170). -/
def execLastDataByteSent (s : State) : Host.Outcome State Fault Refusal :=
  .next (if s.resetLow = false ∧ s.port.state = .answering then
      s.withPort { s.port with state := .spent }
    else s)

/-! ### Requests (R171 to R181) -/

/-- UNKNOWN_REQUEST: answered UNKNOWN, no effect, no data (R171; log 30 for an assigned code). -/
def execUnknownRequest (code : Byte) (s : State) : Host.Outcome State Fault Refusal :=
  .next (if assignedCodes.contains code = true then s else s.taken (s.answer 0 .unknown []))

/-- STATUS (R174). -/
def execStatus (s : State) : Host.Outcome State Fault Refusal :=
  .next (s.taken (s.answer 0 .ok s.statusData))

/-- SET_DEMAND (R48, R171 to R173). -/
def execSetDemand (v : Half) (s : State) : Host.Outcome State Fault Refusal :=
  .next (s.taken
    (if ¬ s.loaded then s.answer 2 .state []
    else if s.stationCap < v.toNat then s.answer 2 .range []
    else (s.demandSet v.toNat).answer 2 .ok (s.demandSet v.toNat).grantData))

/-- CONFIRM (R49, R171 to R173). -/
def execConfirm (v : Half) (s : State) : Host.Outcome State Fault Refusal :=
  .next (s.taken
    (if ¬ s.loaded then s.answer 2 .state []
    else if v.toNat < s.grant.applied then
      (s.confirmed v.toNat).answer 2 .ok (s.confirmed v.toNat).grantData
    else s.answer 2 .noEffect s.grantData))

/-- CLEAR_CUTOFF (R66, R172, R173). -/
def execClearCutoff (s : State) : Host.Outcome State Fault Refusal :=
  .next (s.taken
    (if ¬ s.loaded ∨ s.station.state = .isolated ∨ s.station.state = .barred then
      s.answer 0 .state []
    else if s.grant.cutoff = true then s.cutoffCleared.answer 0 .ok []
    else s.answer 0 .noEffect []))

/-- The snapshot number that a TAKE_SNAPSHOT taken now is answered with (R175). -/
def State.snapTarget (s : State) : List Byte := [nat8 (nextSnapNumber s.table.snapNumber)]

/-- TAKE_SNAPSHOT: absorbed, taken at once while the Table Unit is idle, or made pending (R28, R172, R175).
The row of R182 has the last two the other way round; the model follows R28 and R175 (log 32). -/
def execTakeSnapshot (s : State) : Host.Outcome State Fault Refusal :=
  .next (s.taken
    (if ¬ s.loaded then s.answer 0 .state []
    else if s.table.snapPending = true then s.answer 0 .ok s.snapTarget
    else if s.tableIdle then s.takeSnapshotNow.answer 0 .ok s.snapTarget
    else (s.withTable { s.table with snapPending := true }).answer 0 .ok s.snapTarget))

/-- READ_SUMMARY (R176). -/
def execReadSummary (s : State) : Host.Outcome State Fault Refusal :=
  .next (s.taken
    (match s.table.snapshot with
    | none => s.answer 0 .notReady []
    | some b => s.answer 0 .ok (s.summaryData b)))

/-- READ_ENTRY (R171, R177). -/
def execReadEntry (n : Byte) (s : State) : Host.Outcome State Fault Refusal :=
  .next (s.taken
    (if 31 < n.toNat then s.answer 1 .range []
    else
      match s.table.snapshot with
      | none => s.answer 1 .notReady []
      | some b => s.answer 1 .ok (s.entryData b n.toNat)))

/-- READ_EVENTS (R178). -/
def execReadEvents (s : State) : Host.Outcome State Fault Refusal :=
  .next (s.taken (s.answer 0 .ok s.eventsData))

/-- The flags that CLEAR_EVENTS leaves (R185). -/
def clearedFlags (flags : BitVec 13) (mask : Half) : BitVec 13 := flags &&& ~~~(mask.setWidth 13)

/-- CLEAR_EVENTS (R178, R185). -/
def execClearEvents (mask : Half) (s : State) : Host.Outcome State Fault Refusal :=
  .next (s.taken
    (if spareBits mask = true then s.answer 2 .range []
    else
      (s.withEvents { s.events with flags := clearedFlags s.events.flags mask }).answer 2 .ok
        (eventBytes (clearedFlags s.events.flags mask))))

/-- SET_MASK (R178, R186). -/
def execSetMask (mask : Half) (s : State) : Host.Outcome State Fault Refusal :=
  .next (s.taken
    (if spareBits mask = true then s.answer 2 .range []
    else (s.withEvents { s.events with mask := mask.setWidth 13 }).answer 2 .ok []))

/-- READ_COUNTERS (R178, R189). -/
def execReadCounters (s : State) : Host.Outcome State Fault Refusal :=
  .next (s.taken (s.answer 0 .ok s.countersData))

/-- CLEAR_COUNTERS (R190). -/
def execClearCounters (s : State) : Host.Outcome State Fault Refusal :=
  .next (s.taken ((s.withCounters ⟨0, 0, 0, 0, 0, 0, 0⟩).answer 0 .ok []))

/-- LEAVE (R92, R172, R179; log 16). -/
def execLeave (s : State) : Host.Outcome State Fault Refusal :=
  .next (s.taken
    (if s.station.state ≠ .member then s.answer 0 .state []
    else if s.leaveQueued then s.answer 0 .noEffect []
    else if s.recount.phase = .none ∧ s.grant.applied = 0 ∧ s.gOwn = 0 then
      ((s.requestRecount .leave).lookAfter s false).answer 0 .ok []
    else s.answer 0 .state []))

/-- JOIN (R116, R172, R179). -/
def execJoin (s : State) : Host.Outcome State Fault Refusal :=
  .next (s.taken
    (if s.station.state = .parked then s.enterListen.answer 0 .ok [] else s.answer 0 .state []))

/-- RESTART (R180, R198, R128; log 17). -/
def execRestart (s : State) : Host.Outcome State Fault Refusal :=
  .next (s.taken
    (if s.loaded ∧ s.grant.applied = 0 then s.restarted.answer 0 .ok [] else s.answer 0 .state []))

/-- READ_CONFIG (R172, R181). -/
def execReadConfig (s : State) : Host.Outcome State Fault Refusal :=
  .next (s.taken
    (match s.loader.record with
    | none => s.answer 0 .notReady []
    | some r => s.answer 0 .ok (s.configData r)))

end Sys2Proof.Machine
end

