-- ==== Sys2Proof/Machine/TableUnit.lean ====
section
/-! DEFINITION. The Table Unit at work: the taking of a frame (01_the_budget_table.md sections 1.3 and 1.4),
the completion of a run (02 R40, R41), the close (04 R83 to R86), the end of listening (05 R103, R104) and
the snapshot (01 R28). -/

namespace Sys2Proof.Machine

/-! ### What the idle Table Unit does next (R10, R28, R41) -/

/-- A pending snapshot, a waiting close and a waiting end of listening each go before the next frame. -/
abbrev State.mayTake (s : State) : Prop :=
  s.tableIdle ∧ s.table.snapPending = false ∧ s.recount.closeWaiting = false ∧
    s.station.listenWaiting = false

/-- A waiting close or end of listening can begin. -/
abbrev State.mayWork (s : State) : Prop := s.tableIdle ∧ s.table.snapPending = false

/-! ### Ages and records (R2, R12, R13, R70) -/

/-- The sender's age is set to 0 and its silent flag cleared, or the time of a frame from a non-member is
given (R2, R12). -/
def State.noteSender (s : State) (n : StationNo) : State :=
  if s.table.isMember n = true then
    s.withTable (s.table.updateMember n fun m => { m with since := s.now, silent := false })
  else if n = s.own then s
  else s.withRecount { s.recount with lastNonMember := some s.now }

/-- The target epoch a frame carries (R11, R70). -/
def Body.target? : Body → Option Half
  | .recount target _ => some target
  | .report target _ _ _ _ => some target
  | _ => none

/-- The epochs of a frame go to the highest epoch heard (R11, R70). -/
def State.noteEpochs (s : State) (f : Frame) : State :=
  match f.body.target? with
  | none => s.giveEpoch f.epoch
  | some target => (s.giveEpoch f.epoch).giveEpoch target

/-- In LISTEN with no window open, a frame from another station has been heard (R13). -/
def State.noteHeard (s : State) (n : StationNo) : State :=
  if s.station.state = .listen ∧ s.recount.phase = .none ∧ n ≠ s.own then
    s.withStation { s.station with heard := true }
  else s

/-! ### Applying table frames (R19 to R24) -/

/-- TSN rises by 1, modulo 65536 (R19). -/
def State.nextTsn (s : State) : State := s.withTable { s.table with tsn := s.table.tsn + 1 }

/-- A DEMAND(v) of member `n` is applied: d, g and TSN; then a run (R20). -/
def State.applyDemand (s : State) (n : StationNo) (v : Nat) : State :=
  let s1 := s.withTable (s.table.updateMember n fun m =>
    { m with demand := v, grant := min m.grant v })
  s1.nextTsn.startRun .demand

/-- The committed increment of a CLAIM(a) of member `n` (R21). -/
def State.increment (s : State) (n : StationNo) (a : Nat) : Nat :=
  match s.table.member? n with
  | none => 0
  | some m =>
    let cap := if s.table.starved.filter (fun k => k != n) = [] then a else m.entitlement - m.grant
    min (min a s.free) cap

/-- A CLAIM(a) of member `n` is applied (R21, R24). -/
def State.applyClaim (s : State) (n : StationNo) (a : Nat) : State :=
  let inc := s.increment n a
  let s1 := s.withTable (s.table.updateMember n fun m => { m with grant := m.grant + inc })
  let s2 := s1.nextTsn.recomputeStarved
  if n = s.own then s2.ownClaimNotices inc a else s2.giveNotices false

/-- A RELEASE(v) of member `n` is applied (R22, R24). -/
def State.applyRelease (s : State) (n : StationNo) (v : Nat) : State :=
  let s1 := s.withTable (s.table.updateMember n fun m => { m with grant := min m.grant v })
  s1.nextTsn.recomputeStarved.giveNotices true

/-- A waiting own CLEAR(n) is withdrawn (R23). -/
def State.withdrawClear (s : State) (n : StationNo) : State :=
  s.withQueue (s.queue.filter fun sl => decide (¬ (sl.payload = .clear n ∧ sl.waiting)))

/-- A CLEAR(n) is applied: a ghost is removed and a run started; otherwise TSN alone changes
(R23, R24). -/
def State.applyClear (s : State) (n : StationNo) : State :=
  if s.table.isGhost n = true then
    let s1 := s.withTable (s.table.setEntry n .absent)
    (s1.nextTsn.withdrawClear n).startRun .clear
  else s.nextTsn.recomputeStarved.giveNotices false

/-! ### Judging a frame in MEMBER, phase NONE or CHECK (R14 to R17) -/

/-- A MISMATCH (R8, R14, R52). -/
def State.mismatch (s : State) : State := (s.setDiverged.countMismatch).giveCause .mismatch

/-- A frame from another roster member has passed the comparison (R7, R14). -/
def State.clearSuspect (s : State) (n : StationNo) : State :=
  if n = s.own then s else s.withTable { s.table with suspect := false }

/-- A BEACON that passed, in phase NONE: grant and demand are compared with the sender's entry (R15). -/
def State.compareEntry (s : State) (n : StationNo) (grant demand : Half) : State :=
  match s.table.member? n with
  | none => s
  | some m => if grant.toNat = m.grant ∧ demand.toNat = m.demand then s else s.mismatch

/-- A BEACON that passed, in phase CHECK: the roster is compared; an equal one confirms the sender, and the
last confirmation settles (R15, R87, R88). -/
def State.compareRoster (s : State) (n : StationNo) (roster : BitVec 32) : State :=
  if roster = vectorOf s.table.roster then
    let s1 := s.withTable (s.table.updateMember n fun m => { m with confirmed := true })
    if s1.allConfirmed then s1.settle else s1
  else s.giveCause .roster

/-- A table frame or BEACON of a roster member that passed the comparison (R14, R15). -/
def State.passed (s : State) (n : StationNo) (body : Body) : State :=
  match body with
  | .demand v => s.applyDemand n v.toNat
  | .claim a => s.applyClaim n a.toNat
  | .release v => s.applyRelease n v.toNat
  | .clear k => s.applyClear k
  | .beacon g d roster _ =>
    if s.recount.phase = .check then s.compareRoster n roster else s.compareEntry n g d
  | _ => s

/-- A table frame or BEACON of a roster member: BEHIND, stale, MISMATCH or passed (R14). -/
def State.compare (s : State) (f : Frame) : State :=
  if f.epoch = s.table.epoch then
    if f.tsn = s.table.tsn then (s.clearSuspect f.sender).passed f.sender f.body else s.mismatch
  else if laterEpoch f.epoch s.table.epoch then s.giveCause .behind
  else s.countStale

/-- A REPORT in phase NONE or CHECK, by its target (R16). -/
def State.judgeReport (s : State) (n : StationNo) (target : Half) : State :=
  if target = s.table.epoch then
    if s.table.isMember n = true then s.countStale else s.giveCause .roster
  else if laterEpoch target s.table.epoch then s.giveCause .behind
  else s.countStale

/-- A BEACON from outside the roster, by its header epoch (R17). -/
def State.strangeBeacon (s : State) (epoch : Half) : State :=
  if epoch = s.table.epoch then
    if s.recount.phase = .check then s.giveCause .roster else s.giveCause .merge
  else if laterEpoch epoch s.table.epoch then s.giveCause .behind
  else s.giveCause .merge

/-- A frame taken in MEMBER, phase NONE or CHECK, other than a RECOUNT (R14 to R17). -/
def State.judge (s : State) (f : Frame) : State :=
  match f.body with
  | .report target _ _ _ _ => s.judgeReport f.sender target
  | .slow => s
  | .recount _ _ => s
  | .beacon _ _ _ _ =>
    if s.table.isMember f.sender = true then s.compare f else s.strangeBeacon f.epoch
  | _ => if s.table.isMember f.sender = true then s.compare f else s.countStale

/-- A frame taken in phase WINDOW, other than a RECOUNT (R18, R80). -/
def State.judgeInWindow (s : State) (f : Frame) : State :=
  match f.body with
  | .report target weight d g _ =>
    s.windowReport ⟨f.sender, weight.toNat, d.toNat, g.toNat⟩ target
  | .slow => s
  | .recount _ _ => s
  | _ => s.countStale

/-- A frame that passed the checks of R11, by its kind and the state and phase (R11 to R18). -/
def State.dispose (s : State) (f : Frame) (own : Bool) : State :=
  match f.body with
  | .recount target _ => s.takeRecount target own
  | _ =>
    if s.recount.phase = .window then s.judgeInWindow f
    else if s.station.state = .member then s.judge f
    else s

/-- The work on a frame taken (R11): duplicate, conflict, or the rest. -/
def State.process (s : State) (f : Frame) (own : Bool) : State :=
  if ¬ s.takesPart then s
  else if s.duplicate f own then s.requestBarred
  else if s.conflict f then s.requestBarred
  else (((s.noteEpochs f).noteSender f.sender).noteHeard f.sender).dispose f own

/-- TAKE_FRAME (R10, R11, R157). -/
def execTakeFrame (s : State) : Host.Outcome State Fault Refusal :=
  .next (s.outOfReset
    (if s.mayTake then
      match s.ring.entries with
      | [] => s
      | e :: rest =>
        ((s.withRing { s.ring with entries := rest }).process e.frame e.own).lookAfter s false
    else s))

/-! ### The completion of a run (R40, R41, R86, R104) -/

/-- The LOST cause that stands when the phase becomes CHECK (R160). -/
def State.standingLost (s : State) : State :=
  if s.ring.lost = true then s.giveCause .lost else s

/-- The steps that end a close (R86). -/
def State.closeEnd (s : State) : State :=
  let s1 := if s.station.state = .listen then s.enterMember else s
  let s2 := s1.withRecount { s1.recount with
    phase := .check, target := none, checkTimer := some (s1.after s1.tCheck) }
  let s3 := (s2.standingLost.enqueue (.beacon true)).giveNotices true
  if s3.allConfirmed then s3.settle else s3

/-- A lone formation ends in MEMBER, settled, with an ordinary BEACON (R104). -/
def State.loneEnd (s : State) : State :=
  (s.enterMember.settleCommon.enqueue (.beacon false)).giveNotices true

/-- What follows a completed run, by what started it (R41, R86, R104). -/
def State.runEnds (s : State) (work : RunWork) : State :=
  match work with
  | .demand => s.giveNotices true
  | .clear => s.giveNotices true
  | .close => s.closeEnd
  | .loneFormation => s.loneEnd

/-- ENGINE_RUN_COMPLETE (R40, R41). -/
def execEngineRunComplete (s : State) : Host.Outcome State Fault Refusal :=
  .next (s.outOfReset
    (match s.engine.run with
    | none => s
    | some r => (((s.reach r.due).completeRun r).runEnds r.work).lookAfter s false))

/-! ### The close and the end of listening (R83, R103) -/

/-- The close begins: the window timer stops, and with the own report sent the table is rebuilt
(R83). -/
def State.beginClose (s : State) : State :=
  let s1 := s.withRecount { s.recount with closeWaiting := false, windowTimer := none }
  if s.recount.ownSent = true then s1.rebuild else s1.requestIsolated

/-- CLOSE_BEGIN (R82, R83). -/
def execCloseBegin (s : State) : Host.Outcome State Fault Refusal :=
  .next (s.outOfReset
    (if s.recount.closeWaiting = true ∧ s.mayWork then s.beginClose else s))

/-- The decision at the end of listening (R103). -/
def State.decideListening (s : State) : State :=
  let s1 := s.withStation { s.station with listenWaiting := false }
  if s.station.heard = true then s1.giveCause .join else s1.formAlone

/-- END_OF_LISTENING (R103). -/
def execEndOfListening (s : State) : Host.Outcome State Fault Refusal :=
  .next (s.outOfReset
    (if s.station.listenWaiting = true ∧ s.mayWork then s.decideListening else s))

/-- SNAPSHOT_TAKEN (R28). -/
def execSnapshotTaken (s : State) : Host.Outcome State Fault Refusal :=
  .next (s.outOfReset
    (if s.table.snapPending = true ∧ s.tableIdle then s.takeSnapshotNow else s))

end Sys2Proof.Machine
end

