-- ==== Sys2Proof/Machine/Timers.lean ====
section
/-! DEFINITION. The expiries of the part's timers (R2, R26, R63, R75, R82, R90, R103, R106, R111, R164,
R165). A timer that is stopped does not expire; one that runs is carried to its moment (log 4, log 5). -/

namespace Sys2Proof.Machine

/-! ### Recount Controller -/

/-- The window timer has expired: a close is asked for (R82). -/
def State.windowEnds (s : State) : State :=
  s.withRecount { s.recount with windowTimer := none, closeWaiting := true }

/-- WINDOW_TIMER_EXPIRY (R82). -/
def execWindowTimerExpiry (s : State) : Host.Outcome State Fault Refusal :=
  .next (s.outOfReset
    (match s.recount.windowTimer with
    | none => s
    | some t => (s.reach t).windowEnds))

/-- CHECK_TIMER_EXPIRY (R90). -/
def execCheckTimerExpiry (s : State) : Host.Outcome State Fault Refusal :=
  .next (s.outOfReset
    (match s.recount.checkTimer with
    | none => s
    | some t =>
      (((s.reach t).withRecount { s.recount with checkTimer := none }).giveCause .silence).lookAfter
        s false))

/-- A roster member other than the own station has its silent flag set (R75). -/
abbrev State.someSilent (s : State) : Prop :=
  (stations.any fun n => decide (n ≠ s.own) && (s.table.member? n).any Member.silent) = true

/-- A frame from outside the roster has been taken within the T_silence just past (R75). -/
abbrev State.strangerHeard (s : State) : Prop :=
  olderThan s.now s.tSilence s.recount.lastNonMember = false

/-- The pending cause of lowest code that still stands at the guard's expiry (R75). -/
def State.standingCause (s : State) : Option Cause :=
  if s.recount.causes.mismatch = true then some .mismatch
  else if s.recount.causes.merge = true ∧ s.strangerHeard then some .merge
  else if s.recount.causes.silence = true ∧ s.someSilent then some .silence
  else none

/-- The guard has expired: at most one recount is requested, and the pending causes are emptied (R75). -/
def State.guardEnds (s : State) : State :=
  let s1 := s.withRecount { s.recount with guardTimer := none, causes := ⟨false, false, false⟩ }
  match s.standingCause with
  | none => s1
  | some c => s1.requestRecount c

/-- GUARD_TIMER_EXPIRY (R75). -/
def execGuardTimerExpiry (s : State) : Host.Outcome State Fault Refusal :=
  .next (s.outOfReset
    (match s.recount.guardTimer with
    | none => s
    | some t => ((s.reach t).guardEnds).lookAfter s false))

/-! ### Station Controller -/

/-- LISTEN_TIMER_EXPIRY (R103). -/
def execListenTimerExpiry (s : State) : Host.Outcome State Fault Refusal :=
  .next (s.outOfReset
    (match s.station.listenTimer with
    | none => s
    | some t => (s.reach t).withStation
        { s.station with listenTimer := none, listenWaiting := true }))

/-- The beacon timer has expired: it restarts, and an ordinary BEACON is asked for unless the queue holds
one (R106). One that is refused waits for the next expiry (R154; log 36). -/
def State.beaconEnds (s : State) : State :=
  let s1 := s.withStation { s.station with beaconTimer := some (s.after s.tBeacon) }
  if s1.holds .beacon then s1 else s1.enqueue (.beacon false)

/-- BEACON_TIMER_EXPIRY (R106). -/
def execBeaconTimerExpiry (s : State) : Host.Outcome State Fault Refusal :=
  .next (s.outOfReset
    (match s.station.beaconTimer with
    | none => s
    | some t => (s.reach t).beaconEnds))

/-- The moment at which a member's age has risen above T_silence (R2). -/
def State.silentMoment (s : State) (m : Member) : Time := m.since + ms (s.tSilence + 1)

/-- Member `n` is marked silent, and the Station Controller acts on it (R2, R107). -/
def State.markSilent (s : State) (n : StationNo) : State :=
  (s.withTable (s.table.updateMember n fun m => { m with silent := true })).actOnSilence

/-- MEMBER_SILENT(n) (R2, R107). -/
def execMemberSilent (n : StationNo) (s : State) : Host.Outcome State Fault Refusal :=
  .next (s.outOfReset
    (match s.table.member? n with
    | none => s
    | some m =>
      if s.settled ∧ n ≠ s.own ∧ m.silent = false then
        ((s.reach (s.silentMoment m)).markSilent n).lookAfter s false
      else s))

/-- ISOLATION_HOLD_EXPIRY (R111). -/
def execIsolationHoldExpiry (s : State) : Host.Outcome State Fault Refusal :=
  .next (s.outOfReset
    (match s.station.holdTimer with
    | none => s
    | some t => (s.reach t).enterListen))

/-! ### Table Unit -/

/-- GHOST_TIMER_EXPIRY(n): the ghost is expired (R26, R27). -/
def execGhostTimerExpiry (n : StationNo) (s : State) : Host.Outcome State Fault Refusal :=
  .next (s.outOfReset
    (match s.table.ghost? n with
    | none => s
    | some g =>
      match g.timer with
      | none => s
      | some t =>
        ((s.reach t).withTable (s.table.setEntry n (.ghost ⟨g.grant, none⟩))).lookAfter s false))

/-! ### Grant Control -/

/-- LOWER_REQUEST_DEADLINE (R63). -/
def execLowerRequestDeadline (s : State) : Host.Outcome State Fault Refusal :=
  .next (s.outOfReset
    (match s.grant.lower with
    | none => s
    | some r => ((s.reach r.deadline).cutOff).lookAfter s false))

/-! ### Receive Ring -/

/-- The own slow timer has expired: another SLOW while fewer than 10 places are free, else the hold ends
(R164). -/
def State.slowEnds (s : State) : State :=
  if 6 < s.ring.entries.length then
    (s.withRing { s.ring with flow := .sending, slowTimer := none }).enqueue .slow
  else s.withRing { s.ring with flow := .off, slowTimer := none }

/-- OWN_SLOW_TIMER_EXPIRY (R164). -/
def execOwnSlowTimerExpiry (s : State) : Host.Outcome State Fault Refusal :=
  .next (s.outOfReset
    (match s.ring.slowTimer with
    | none => s
    | some t => ((s.reach t).slowEnds).lookAfter s false))

/-- DEFERRAL_EXPIRY (R165). -/
def execDeferralExpiry (s : State) : Host.Outcome State Fault Refusal :=
  .next (s.outOfReset
    (match s.ring.deferral with
    | none => s
    | some t => (s.reach t).withRing { s.ring with deferral := none }))

end Sys2Proof.Machine
end

