-- ==== Sys2Proof/Machine/Clock.lean ====
section
/-! DEFINITION. The part's own clock: which of its own events is due now, and what a step does when no
command waits (log 3). -/

namespace Sys2Proof.Machine

/-- A moment that has come. -/
abbrev State.past (s : State) (t : Option Time) : Prop := (t.any fun u => decide (u ≤ s.now)) = true

/-- A command, if its condition holds. -/
def dueIf (c : Instr) (p : Bool) : Option Instr := if p = true then some c else none

/-- Events of the own transmission (R139, R140, R141). -/
def State.dueTx (s : State) : Option Instr :=
  match s.line.tx with
  | .sending f => dueIf .ownFrameCompletion (decide (s.frameEnd f ≤ s.now))
  | .jamming till =>
    if s.line.state = .busy ∧ till - s.bits 6 ≤ s.now then some .lineStateJam
    else dueIf .jamDriveEnd (decide (till ≤ s.now))
  | _ => none

/-- The end of the wait after a failed read attempt (R193). -/
def State.dueRead (s : State) : Option Instr :=
  match s.loader.reading with
  | .waiting till => dueIf .readRetryWaitExpiry (decide (till ≤ s.now))
  | _ => none

/-- What the Table Unit does next (R10, R28, R41). -/
def State.dueTable (s : State) : Option Instr :=
  match s.engine.run with
  | some r => dueIf .engineRunComplete (decide (r.due ≤ s.now))
  | none =>
    if s.table.snapPending = true then some .snapshotTaken
    else if s.recount.closeWaiting = true then some .closeBegin
    else if s.station.listenWaiting = true then some .endOfListening
    else dueIf .takeFrame (decide (s.ring.entries ≠ []))

/-- The timers with one moment each, in the order of their blocks' chapters. -/
def State.dueTimer (s : State) : Option Instr :=
  (dueIf .lowerRequestDeadline (decide (s.past (s.grant.lower.map LowerRequest.deadline)))).or <|
  (dueIf .windowTimerExpiry (decide (s.past s.recount.windowTimer))).or <|
  (dueIf .checkTimerExpiry (decide (s.past s.recount.checkTimer))).or <|
  (dueIf .guardTimerExpiry (decide (s.past s.recount.guardTimer))).or <|
  (dueIf .listenTimerExpiry (decide (s.past s.station.listenTimer))).or <|
  (dueIf .beaconTimerExpiry (decide (s.past s.station.beaconTimer))).or <|
  (dueIf .isolationHoldExpiry (decide (s.past s.station.holdTimer))).or <|
  (dueIf .ownSlowTimerExpiry (decide (s.past s.ring.slowTimer))).or <|
  dueIf .deferralExpiry (decide (s.past s.ring.deferral))

/-- The lowest ghost whose timer has run out (R26). -/
def State.dueGhost (s : State) : Option Instr :=
  (stations.find? fun n => (s.table.ghost? n).any fun g => decide (s.past g.timer)).map
    .ghostTimerExpiry

/-- Member `n` is to be marked silent now (R2). -/
def State.silentNow (s : State) (n : StationNo) : Bool :=
  decide (s.settled ∧ n ≠ s.own) &&
    (s.table.member? n).any fun m => decide (m.silent = false ∧ s.silentMoment m ≤ s.now)

/-- The lowest member to be marked silent (R2). -/
def State.dueSilent (s : State) : Option Instr :=
  (stations.find? s.silentNow).map .memberSilent

/-- Backoff slots and starts on a free line (R143, R148). -/
def State.dueStart (s : State) : Option Instr :=
  if s.lineFree then
    match s.queue.find? fun sl => decide (sl.state = .backoff ∧ s.backoffDue sl ≤ s.now) with
    | some sl => some (.backoffSlotExpiry sl.kind)
    | none => dueIf .slotStart (decide (s.past s.startMoment))
  else none

/-- The own event that is due now, the first in a fixed order (log 3). -/
def State.dueCommand (s : State) : Option Instr :=
  if s.resetLow = true then none
  else
    s.dueTx.or <| s.dueRead.or <| s.dueTable.or <| s.dueTimer.or <| s.dueGhost.or <|
      s.dueSilent.or s.dueStart

/-- A step with no command waiting: the due event is put in the queue, or else half a microsecond
passes (log 3). -/
def State.idle (s : State) : State :=
  match s.dueCommand with
  | some c => s.withPending [c]
  | none => s.withNow (s.now + 1)

end Sys2Proof.Machine
end

