-- ==== Sys2Proof/Machine/Dispatch.lean ====
section
/-! DEFINITION. One arm for each command: its meaning. -/

namespace Sys2Proof.Machine

def exec (i : Instr) (s : State) : Host.Outcome State Fault Refusal :=
  match i with
  | .powerReset => Sys2Proof.Machine.execPowerReset s
  | .resetRelease straps => Sys2Proof.Machine.execResetRelease straps s
  | .readAttemptComplete bytes => Sys2Proof.Machine.execReadAttemptComplete bytes s
  | .readAttemptFailed => Sys2Proof.Machine.execReadAttemptFailed s
  | .sclHoldTimeout => Sys2Proof.Machine.execSclHoldTimeout s
  | .readRetryWaitExpiry => Sys2Proof.Machine.execReadRetryWaitExpiry s
  | .lineStartupSettled => Sys2Proof.Machine.execLineStartupSettled s
  | .transactionBegin => Sys2Proof.Machine.execTransactionBegin s
  | .transactionEnd => Sys2Proof.Machine.execTransactionEnd s
  | .unknownRequest code => Sys2Proof.Machine.execUnknownRequest code s
  | .status => Sys2Proof.Machine.execStatus s
  | .setDemand v => Sys2Proof.Machine.execSetDemand v s
  | .confirm v => Sys2Proof.Machine.execConfirm v s
  | .clearCutoff => Sys2Proof.Machine.execClearCutoff s
  | .takeSnapshot => Sys2Proof.Machine.execTakeSnapshot s
  | .readSummary => Sys2Proof.Machine.execReadSummary s
  | .readEntry n => Sys2Proof.Machine.execReadEntry n s
  | .readEvents => Sys2Proof.Machine.execReadEvents s
  | .clearEvents mask => Sys2Proof.Machine.execClearEvents mask s
  | .setMask mask => Sys2Proof.Machine.execSetMask mask s
  | .readCounters => Sys2Proof.Machine.execReadCounters s
  | .clearCounters => Sys2Proof.Machine.execClearCounters s
  | .leave => Sys2Proof.Machine.execLeave s
  | .join => Sys2Proof.Machine.execJoin s
  | .restart => Sys2Proof.Machine.execRestart s
  | .readConfig => Sys2Proof.Machine.execReadConfig s
  | .lineActivityStart => Sys2Proof.Machine.execLineActivityStart s
  | .frameReceived cells => Sys2Proof.Machine.execFrameReceived cells s
  | .takeFrame => Sys2Proof.Machine.execTakeFrame s
  | .engineRunComplete => Sys2Proof.Machine.execEngineRunComplete s
  | .windowTimerExpiry => Sys2Proof.Machine.execWindowTimerExpiry s
  | .closeBegin => Sys2Proof.Machine.execCloseBegin s
  | .listenTimerExpiry => Sys2Proof.Machine.execListenTimerExpiry s
  | .endOfListening => Sys2Proof.Machine.execEndOfListening s
  | .snapshotTaken => Sys2Proof.Machine.execSnapshotTaken s
  | .checkTimerExpiry => Sys2Proof.Machine.execCheckTimerExpiry s
  | .guardTimerExpiry => Sys2Proof.Machine.execGuardTimerExpiry s
  | .beaconTimerExpiry => Sys2Proof.Machine.execBeaconTimerExpiry s
  | .memberSilent n => Sys2Proof.Machine.execMemberSilent n s
  | .isolationHoldExpiry => Sys2Proof.Machine.execIsolationHoldExpiry s
  | .ghostTimerExpiry n => Sys2Proof.Machine.execGhostTimerExpiry n s
  | .lowerRequestDeadline => Sys2Proof.Machine.execLowerRequestDeadline s
  | .ownSlowTimerExpiry => Sys2Proof.Machine.execOwnSlowTimerExpiry s
  | .deferralExpiry => Sys2Proof.Machine.execDeferralExpiry s
  | .slotStart => Sys2Proof.Machine.execSlotStart s
  | .backoffSlotExpiry k => Sys2Proof.Machine.execBackoffSlotExpiry k s
  | .readBackMismatch => Sys2Proof.Machine.execReadBackMismatch s
  | .endOfJam => Sys2Proof.Machine.execEndOfJam s
  | .ownFrameCompletion => Sys2Proof.Machine.execOwnFrameCompletion s
  | .lineStateJam => Sys2Proof.Machine.execLineStateJam s
  | .jamDriveEnd => Sys2Proof.Machine.execJamDriveEnd s
  | .lastDataByteSent => Sys2Proof.Machine.execLastDataByteSent s

end Sys2Proof.Machine
end

