-- ==== Sys2Proof/Safety.lean ====
section
/-! DEFINITION. What must hold of the machine: the ranges the manual gives its state, and the rules on the
applied grant. Stated as obligations; no meaning rests on them. -/

namespace Sys2Proof.Machine

/-- A slot within its ranges: the follow-on value is of the slot's own kind, and one is held only while the
slot is ON_LINE (R144, R145). -/
def Slot.inRange (sl : Slot) : Prop :=
  sl.attempts ≤ 16 ∧ sl.backoffLeft ≤ 63 ∧
    ∀ p, sl.followOn = some p → p.kind = sl.kind ∧ sl.state = .onLine

/-- At most four frames, never two of one kind (R144). -/
def queueOk (q : List Slot) : Prop :=
  q.length ≤ 4 ∧ (q.map Slot.kind).Nodup ∧ ∀ sl ∈ q, sl.inRange

/-- And one slot at most ON_LINE (R149). -/
def queueSound (q : List Slot) : Prop :=
  queueOk q ∧ (q.filter fun sl => sl.state == .onLine).length ≤ 1

/-- No frame of kind `k` is QUEUED or in BACKOFF. -/
abbrev noneWaits (q : List Slot) (k : Kind) : Prop := ∀ sl ∈ q, sl.kind = k → sl.state = .onLine

/-- A slot holds `p` as the latest value queued for its kind (R145). -/
def carries (q : List Slot) (p : Payload) : Prop := ∃ sl ∈ q, sl.followOn.getD sl.payload = p

/-- The queue refuses `p`: its four slots are taken, and none of them waits with a kind of lower standing
(R146). -/
def fullFor (q : List Slot) (p : Payload) : Prop :=
  q.length = 4 ∧ ∀ sl ∈ q, sl.state ≠ .onLine → sl.payload.standing ≤ p.standing

/-- The Transmit Queue within its capacity (R144). -/
def State.queueInv (s : State) : Prop := queueOk s.queue

/-- One slot at most is ON_LINE, and one is exactly while the station transmits (R149); it transmits in BUSY
or JAM only, drives its frame in BUSY only, and does not transmit in LOADING (R137, R197). -/
def State.lineInv (s : State) : Prop :=
  (s.queue.filter fun sl => sl.state == .onLine).length = (if s.line.tx = .none then 0 else 1) ∧
  (s.line.tx ≠ .none → s.line.state = .busy ∨ s.line.state = .jam) ∧
  (∀ f, s.line.tx = .sending f → s.line.state = .busy) ∧
  (s.station.state = .loading → s.line.tx = .none)

/-- At most 16 frames in the ring (R155), and 32 entries in the table (R1). -/
def State.storeInv (s : State) : Prop :=
  s.ring.entries.length ≤ 16 ∧ s.table.entries.length = 32

/-- The recount count never exceeds 4 and is 0 in phase NONE (R91). -/
def State.countInv (s : State) : Prop :=
  s.recount.count ≤ 4 ∧ (s.recount.phase = .none → s.recount.count = 0)

/-- Windows, closes and listening belong to their phases and states: a window's timer and a waiting close to
WINDOW (R78, R82), listening to LISTEN in NONE (R101 to R103), the run of a close to the end of its window and
that of a lone formation to LISTEN (R83, R103). -/
def State.phaseInv (s : State) : Prop :=
  (s.recount.closeWaiting = true ∨ s.recount.windowTimer ≠ none → s.recount.phase = .window) ∧
  (s.station.listenTimer ≠ none ∨ s.station.listenWaiting = true →
    s.station.state = .listen ∧ s.recount.phase = .none) ∧
  ∀ r, s.engine.run = some r →
    (r.work = .close → s.recount.phase = .window ∧ s.recount.closeWaiting = false ∧
      s.recount.windowTimer = none) ∧
    (r.work = .loneFormation → s.station.state = .listen ∧ s.recount.phase = .none)

/-- In CHECK some member other than the own station is unconfirmed, since the last confirmation settles (R88);
while the run of a close is in progress no member is confirmed (R84). -/
def State.confirmInv (s : State) : Prop :=
  s.phaseInv ∧
  (s.recount.phase = .check →
    ∃ n m, n ≠ s.own ∧ s.table.member? n = some m ∧ m.confirmed = false) ∧
  ∀ r, s.engine.run = some r → r.work = .close →
    ∀ n m, s.table.member? n = some m → m.confirmed = false

/-- A is 0 while CUTOFF is asserted and in LOADING, FAULT, LISTEN and PARKED (R65), and while an
isolation hold runs (R111); A does not exceed H (R48, R53); H is 0 in LOADING and FAULT (R197) and at most
the station cap otherwise (R47). -/
def State.grantInv (s : State) : Prop :=
  (s.grant.cutoff = true → s.grant.applied = 0) ∧
  (s.station.state ≠ .member ∧ s.station.state ≠ .isolated ∧ s.station.state ≠ .barred →
    s.grant.applied = 0) ∧
  (s.station.holdTimer ≠ none → s.station.state = .isolated ∧ s.grant.applied = 0) ∧
  s.grant.applied ≤ s.grant.demand ∧
  (s.station.state = .loading ∨ s.station.state = .fault → s.grant.demand = 0) ∧
  s.grant.demand ≤ s.stationCap

/-- A DEMAND, CLAIM or RELEASE: a frame that moves the sender's grant (R20 to R22). -/
def movesGrant : Kind → Bool
  | .demand => true
  | .claim => true
  | .release => true
  | _ => false

/-- An own DEMAND or RELEASE carries at least A (R58). -/
def State.coversA (s : State) (b : Body) : Prop :=
  match b with
  | .demand v => s.grant.applied ≤ v.toNat
  | .release v => s.grant.applied ≤ v.toNat
  | _ => True

/-- A DEMAND or RELEASE slot (R56 to R58, R78): finishing on the line, or asked for while settled, a DEMAND
with the latest H and a RELEASE with the latest A, below g_own. -/
def State.slotCurrent (s : State) (sl : Slot) : Prop :=
  sl.kind = .demand ∨ sl.kind = .release →
    if sl.finishing = true then sl.state = .onLine ∧ sl.followOn = none
    else s.settled ∧
      (sl.kind = .demand → sl.latest = .demand (BitVec.ofNat 16 s.grant.demand)) ∧
      (sl.kind = .release →
        sl.latest = .release (BitVec.ofNat 16 s.grant.applied) ∧ s.grant.applied < s.gOwn)

/-- A is at most g_own in MEMBER, phase NONE or CHECK (R58), with what this rests on: one own frame that moves
the grant is on its way at most, from its start to its taking, and an own DEMAND or RELEASE covers A; the own
report of a window covers A, and so does the own entry that a close has written; windows, closes and listening
belong to their phases and states. Outside a run d_own is the demand the claims go by (R50). -/
def State.appliedInv (s : State) : Prop :=
  (s.working → s.grant.applied ≤ s.gOwn) ∧
  ((s.ring.entries.filter fun e => e.own && movesGrant e.frame.kind).length +
      (s.queue.filter fun sl => sl.state == .onLine && movesGrant sl.kind).length ≤ 1) ∧
  (∀ e ∈ s.ring.entries, e.own = true → s.coversA e.frame.body) ∧
  (∀ f, s.line.tx = .sending f →
    s.coversA f.body ∧ ∀ sl ∈ s.queue, sl.state = .onLine → sl.kind = f.kind) ∧
  (∀ sl ∈ s.queue, s.slotCurrent sl) ∧
  (∀ o, s.recount.phase = .window → s.recount.ownReport = some o → s.grant.applied ≤ o.grant) ∧
  s.phaseInv ∧
  (∀ r, s.engine.run = some r → r.work = .close → s.grant.applied ≤ s.gOwn) ∧
  (s.engine.run = none → s.grant.sharedDemand = s.dOwn)

/-- No counter exceeds 65535 (R189). -/
def Counters.inRange (c : Counters) : Prop :=
  c.frameErrors ≤ 65535 ∧ c.staleFrames ≤ 65535 ∧ c.mismatches ≤ 65535 ∧ c.collisions ≤ 65535 ∧
    c.abandoned ≤ 65535 ∧ c.ringOverflows ≤ 65535 ∧ c.recounts ≤ 65535

def State.counterInv (s : State) : Prop := s.events.counters.inRange

/-- While RESETN is low every block holds its POWER reset values (R191); time, the level of CSN and the
waiting commands are no block's. -/
def State.resetInv (s : State) : Prop :=
  s.resetLow = true →
    s = { State.reset with now := s.now, csnHigh := s.csnHigh, pending := s.pending }

/-- The read attempt count is at most 3, and at most 2 while a further attempt is to come (R192, R193). -/
def State.readInv (s : State) : Prop :=
  s.loader.attempts ≤ 3 ∧ (s.loader.reading ≠ .off → s.loader.attempts ≤ 2)

/-- The members' entitlements, added up over the 32 entries. -/
def Table.totalEntitlement (t : Table) : Nat :=
  stations.foldr (fun n k => ((t.member? n).map Member.entitlement).getD 0 + k) 0

/-- The members' recorded demands, added up over the 32 entries. -/
def Table.totalDemand (t : Table) : Nat :=
  stations.foldr (fun n k => ((t.member? n).map Member.demand).getD 0 + k) 0

/-- `f` of the members that `p` picks, added up over the 32 entries. -/
def Table.totalOf (t : Table) (p : StationNo → Bool) (f : Member → Nat) : Nat :=
  stations.foldr (fun n k => (if p n = true then ((t.member? n).map f).getD 0 else 0) + k) 0

/-- The entitlements of the members are those of R34 to R37 for a shareable budget and a rotor start. The members
that `left` picks are those of S when a pass caps no more: each of the others has its demand, which was within its
part, and each of these has its part, floor(R*w/W), below its demand, and a unit more if fewer of them stand before
it in rotor order than units are left over. -/
def Table.sharedOut (t : Table) (shareable rotor : Nat) : Prop :=
  ∃ left : StationNo → Bool,
    let remaining := shareable - t.totalOf (fun n => !left n) Member.demand
    let part := fun m : Member => remaining * m.weight / t.totalOf left Member.weight
    let leftover := remaining - t.totalOf left part
    let before := fun n : StationNo => stations.filter fun k =>
      left k && decide ((k.val + 32 - rotor) % 32 < (n.val + 32 - rotor) % 32)
    (∀ n, left n = true → ∃ m, t.member? n = some m) ∧
    (∀ n m, t.member? n = some m → left n = false →
      m.entitlement = m.demand ∧ ((∃ k, left k = true) → m.demand ≤ part m)) ∧
    ∀ n m, t.member? n = some m → left n = true →
      part m < m.demand ∧ m.entitlement = part m + if (before n).length < leftover then 1 else 0

/-- A frame whose quantities lie in the ranges the receive checks ask for (R121, R124, R130). -/
def Frame.inRange (f : Frame) : Prop :=
  match f.body with
  | .claim amount => amount ≠ 0
  | .report _ weight _ _ _ => weight ≠ 0
  | _ => True

/-- The bytes and their check (R117, R125). -/
def checked (l : List Byte) : List Byte := l ++ be16 (crc l)

/-- The cells of an activity that carries these bytes after the start delimiter (R117, R138). -/
def activityOf (l : List Byte) : List Cell := (delimiter ++ bytesBits l).map cellOf

/-- A frame on the line or in the ring states a weight of at least 1, if it states one (R124). -/
def Body.weighs (b : Body) : Prop :=
  match b with
  | .report _ weight _ _ _ => weight ≠ 0
  | _ => True

/-- A waiting frame states a weight of at least 1, if it states one (R124). -/
def Payload.weighs (p : Payload) : Prop :=
  match p with
  | .report _ weight _ _ _ => weight ≠ 0
  | _ => True

/-- R39 where entitlement-valid holds: each member's E is at most its demand, and the entitlements sum to the
smaller of the shareable budget and the sum of the demands. -/
def State.sharesBudget (s : State) : Prop :=
  (∀ n m, s.table.member? n = some m → m.entitlement ≤ m.demand) ∧
  s.table.totalEntitlement = min (s.budget - s.table.reservations) s.table.totalDemand

/-- The frames, records and values from which member weights come hold weights of at least 1 (R1, R124,
R194). -/
def State.weightInv (s : State) : Prop :=
  (∀ n m, s.table.member? n = some m → 1 ≤ m.weight) ∧
  (∀ e ∈ s.ring.entries, Body.weighs e.frame.body) ∧
  (∀ f, s.line.tx = .sending f → Body.weighs f.body) ∧
  (∀ sl ∈ s.queue, sl.payload.weighs ∧ ∀ p, sl.followOn = some p → p.weighs) ∧
  (∀ r ∈ s.recount.reports, 1 ≤ r.weight) ∧
  (∀ o, s.recount.ownReport = some o → 1 ≤ o.weight) ∧
  (s.station.state ≠ .loading ∧ s.station.state ≠ .fault → 1 ≤ s.weight ∧ s.weight ≤ 15)

/-- Run `r` works on the members, demands, reservations and rotor start as they stand in `s` (R32, R33), before
its first pass. -/
def State.runReads (s : State) (r : Run) : Prop :=
  r.share = s.table.sharers.filter (fun i => i.demand != 0) ∧
  r.remaining = s.budget - s.table.reservations ∧ r.passes = 0 ∧
  r.rotor = s.table.epoch.toNat % 32 ∧
  r.found = (s.table.sharers.filter fun i => i.demand == 0).map fun i => (i.station, 0)

/-- Entitlement-valid is clear exactly while a run is in progress (R6, R31, R40); a run works on the members,
demands and reservations as they stand (R32, R33); without one R39 holds. The table has its 32 entries. In
LOADING and FAULT the table is empty and nothing of a recount, of listening or of a hold is under way (R197). -/
def State.shareInv (s : State) : Prop :=
  s.table.entries.length = 32 ∧
  (s.station.state = .loading ∨ s.station.state = .fault →
    s.engine.run = none ∧ (∀ n, s.table.entryAt n = .absent) ∧ s.recount = Recount.reset ∧
      s.station.listenTimer = none ∧ s.station.listenWaiting = false ∧ s.station.holdTimer = none) ∧
  (s.engine.run = none → s.table.entValid = true ∧ s.sharesBudget) ∧
  (∀ r, s.engine.run = some r → s.table.entValid = false ∧ s.runReads r)

/-- The state after a request has been taken: the port answers, all else is as in `s` (R168, R170). -/
def State.afterAnswer (s : State) (arguments : Nat) (status : Status) (data : List Byte) : State :=
  { s with port := ⟨.answering, s.port.greeting, some ⟨arguments, status, data⟩⟩ }

/-- The flag of event `e` is set. -/
def EventUnit.flagSet (u : EventUnit) (e : Event) : Prop := u.flags.getLsbD (e.rank - 1) = true

/-- Everything outside the Local Port, the Transmit Queue, the Receive Ring, Grant Control, the Station
Controller and the Event Unit is the same in both states, and the ring holds the same frames, LOST and
deferral. -/
def State.sameOutsideGrant (s t : State) : Prop :=
  t.now = s.now ∧ t.resetLow = s.resetLow ∧ t.csnHigh = s.csnHigh ∧ t.pending = s.pending ∧
  t.loader = s.loader ∧ t.line = s.line ∧ t.table = s.table ∧ t.engine = s.engine ∧
  t.recount = s.recount ∧ t.ring.entries = s.ring.entries ∧ t.ring.lost = s.ring.lost ∧
  t.ring.deferral = s.ring.deferral

/-- A YIELD need holds once A is `v`, by what Grant Control last heard (R59). -/
def State.needAt (s : State) (v : Nat) : Prop :=
  s.working ∧ s.grant.seen.entitlement < v ∧ (s.othersStarved ∨ s.grant.seen.isOver = true)

/-- What a fall of A to `v` in `s` has made of the lower request and the event flags (R49, R59 to R62), the
isolation hold (R67, R111) and the queue, where a waiting CLAIM is withdrawn and may be queued afresh (R51, R52)
and a settled station asks for its RELEASE (R57). A YIELD request's target is the E_own last heard (R61). -/
def State.loweredTo (s t : State) (v : Half) : Prop :=
  (∀ r, s.grant.lower = some r → v.toNat ≤ r.target → ¬ s.needAt v.toNat →
    t.grant.lower = none ∧ t.events = s.events) ∧
  (∀ r, s.grant.lower = some r → r.target < v.toNat →
    r.cause = .isolate ∨ ¬ s.working ∨ (s.needAt v.toNat ∧ r.target = s.grant.seen.entitlement) →
    t.grant.lower = some r ∧ t.events = s.events) ∧
  (∀ r, s.grant.lower = some r → r.target < v.toNat → r.cause = .yield → s.working →
    r.target = s.grant.seen.entitlement → ¬ s.needAt v.toNat →
    t.grant.lower = none ∧
      t.events = { s.events with flags := s.events.flags ||| Event.lowerWithdrawn.bit }) ∧
  (s.grant.lower = none → ¬ s.needAt v.toNat → t.grant.lower = none ∧ t.events = s.events) ∧
  (s.grant.lower = none → s.needAt v.toNat →
    t.grant.lower =
        some ⟨.yield, s.grant.seen.entitlement, s.now + ms (2 ^ s.config.yieldExp.toNat)⟩ ∧
      t.events = { s.events with flags := s.events.flags ||| Event.lowerRequest.bit }) ∧
  (∀ sl ∈ t.queue, sl.kind = .claim → sl.state ≠ .onLine →
    s.settled ∧ v.toNat = s.gOwn ∧ sl.attempts = 0 ∧ sl.age = s.now) ∧
  (s.settled → queueSound s.queue → v.toNat < s.gOwn → carries t.queue (.release v)) ∧
  t.station = if s.station.state = .isolated ∧ v = 0 ∧ s.station.holdTimer = none then
      { s.station with holdTimer := some (s.now + ms (2 ^ (s.config.silenceExp.toNat + 1))) }
    else s.station

/-- What Grant Control makes of the lower request on entry to ISOLATED or BARRED (R64): with A at 0 none is left;
above 0 it asks for nothing by the earlier deadline. LOWER_REQUEST is raised when the request is new or its target
falls. A, H and CUTOFF stay. -/
def State.loweredToNothing (s t : State) : Prop :=
  let deadline := t.now + ms (2 ^ s.config.yieldExp.toNat)
  t.grant.applied = s.grant.applied ∧ t.grant.demand = s.grant.demand ∧ t.grant.cutoff = s.grant.cutoff ∧
  (s.grant.applied = 0 → t.grant.lower = none) ∧
  (0 < s.grant.applied → s.grant.lower = none → t.grant.lower = some ⟨.isolate, 0, deadline⟩) ∧
  (∀ r, 0 < s.grant.applied → s.grant.lower = some r →
    t.grant.lower = some ⟨.isolate, 0, min r.deadline deadline⟩) ∧
  (t.events.flagSet .lowerRequest ↔ s.events.flagSet .lowerRequest ∨
    0 < s.grant.applied ∧ ∀ r, s.grant.lower = some r → r.target ≠ 0)

/-- What a look at the YIELD need, by A and by what Grant Control has now heard, has made in `t` of the lower
request of `s` (R59 to R62): it is created at a need, follows E_own with its deadline kept, and is withdrawn when
the need has gone. LOWER_REQUEST is raised for a new request or a falling target, LOWER_WITHDRAWN for a
withdrawal. -/
def State.yieldJudged (s t : State) : Prop :=
  let target := t.grant.seen.entitlement
  let need := target < t.grant.applied ∧
    ((∃ n ∈ t.grant.seen.starved, n ≠ t.own) ∨ t.grant.seen.isOver = true)
  (s.grant.lower = none → need →
    t.grant.lower = some ⟨.yield, target, t.now + ms (2 ^ s.config.yieldExp.toNat)⟩ ∧
      noneWaits t.queue .claim) ∧
  (s.grant.lower = none → ¬ need → t.grant.lower = none) ∧
  (∀ r, s.grant.lower = some r → r.cause = .yield →
    (r.target < t.grant.applied → need → t.grant.lower = some { r with target := target }) ∧
    (¬ need → t.grant.lower = none)) ∧
  (∀ r, s.grant.lower = some r → r.cause = .isolate → r.target < t.grant.applied →
    t.grant.lower = some r) ∧
  ((∀ r, s.grant.lower = some r → r.target < t.grant.applied) →
    (t.events.flagSet .lowerRequest ↔ s.events.flagSet .lowerRequest ∨
      need ∧ ∀ r, s.grant.lower = some r → r.cause = .yield ∧ target < r.target) ∧
    (t.events.flagSet .lowerWithdrawn ↔ s.events.flagSet .lowerWithdrawn ∨
      ¬ need ∧ ∃ r, s.grant.lower = some r ∧ r.cause = .yield))

/-- A recount has been requested with cause `c` (R72): requested is set, with it newly set no CLAIM waits, and
the queue holds an own RECOUNT whose latest value asks for one past the highest epoch heard, with cause LEAVE
kept. -/
def State.asksFor (s t : State) (c : Cause) : Prop :=
  t.recount.requested = true ∧
  (s.recount.requested = false → noneWaits t.queue .claim) ∧
  (queueSound s.queue → ∀ h, t.recount.highest = some h →
    carries t.queue (.recount (h + 1) (if s.leaveQueued then .leave else c)))

/-- The pins, the waiting commands, Loader, Line Interface and Local Port are the same in both states. -/
def State.sameBeside (s t : State) : Prop :=
  t.resetLow = s.resetLow ∧ t.csnHigh = s.csnHigh ∧ t.pending = s.pending ∧
  t.loader = s.loader ∧ t.line = s.line ∧ t.port = s.port

/-- Those and the running time are the same in both states. -/
def State.sameOutside (s t : State) : Prop := t.now = s.now ∧ s.sameBeside t

/-- A member's entry once a frame of its station has been taken at `now` (R2). -/
def Member.heardAt (m : Member) (now : Time) : Member := { m with since := now, silent := false }

/-- No entry has changed, but for the age and silent flag of station `n`, if it is a member (R2). -/
def State.onlyHeard (s t : State) (n : StationNo) : Prop :=
  ∀ k, t.table.entryAt k =
    match s.table.entryAt k with
    | .member m => .member (if k = n then m.heardAt s.now else m)
    | e => e

/-- A frame of station `n` has been taken off the ring, `rest` staying, and not applied to the table. -/
def State.notApplied (s t : State) (n : StationNo) (rest : List RingEntry) : Prop :=
  s.sameOutside t ∧ s.onlyHeard t n ∧ t.ring.entries = rest ∧ t.table.epoch = s.table.epoch ∧
  t.table.tsn = s.table.tsn ∧ t.table.suspect = s.table.suspect ∧ t.table.sum = s.table.sum ∧
  t.engine = s.engine ∧ t.grant = s.grant

/-- A frame has been counted stale, and asks for nothing (R14, R16 to R18). -/
def State.staleCounted (s t : State) : Prop :=
  t.recount.requested = s.recount.requested ∧
  t.events = { s.events with counters := { s.events.counters with
    staleFrames := min 65535 (s.events.counters.staleFrames + 1) } }

/-- A MISMATCH has been found (R14): DIVERGED set, with it newly set no CLAIM waits (R52), MISMATCHES counted,
and the cause held by a running guard, where a CLAIM is withdrawn on its entry alone (R74), or a recount
requested (R71). -/
def State.mismatchFound (s t : State) : Prop :=
  t.table.diverged = true ∧ (s.table.diverged = false → noneWaits t.queue .claim) ∧
  t.events = { s.events with counters := { s.events.counters with
    mismatches := min 65535 (s.events.counters.mismatches + 1) } } ∧
  (s.recount.phase = .none → s.recount.guardTimer ≠ none →
    t.recount.causes.mismatch = true ∧ t.recount.requested = s.recount.requested ∧
    (s.recount.causes.mismatch = false → noneWaits t.queue .claim) ∧
    (s.recount.causes.mismatch = true → s.table.diverged = true → t.queue = s.queue)) ∧
  (s.recount.phase = .check ∨ s.recount.guardTimer = none → s.asksFor t .mismatch)

/-- The table of R147: frame `p` is allowed in the present state and phase, and its own conditions hold. A
class-2 frame needs the deferral to be over (R166). -/
def State.allows (s : State) (p : Payload) : Prop :=
  let quiet := s.ring.entries = [] ∧ s.engine.run = none
  match p with
  | .release _ => s.station.state = .member ∧ s.recount.phase = .none ∧ quiet
  | .demand _ => s.station.state = .member ∧ s.recount.phase = .none ∧ quiet ∧ s.ring.deferral = none
  | .claim _ => s.station.state = .member ∧ s.recount.phase = .none ∧ quiet ∧ s.ring.deferral = none
  | .clear _ => s.station.state = .member ∧ s.recount.phase = .none ∧ quiet ∧ s.ring.deferral = none
  | .beacon false => s.station.state = .member ∧ s.recount.phase = .none ∧ quiet ∧ s.ring.deferral = none
  | .beacon true => s.station.state = .member ∧ s.recount.phase = .check ∧ quiet
  | .recount _ _ => s.station.state = .listen ∨ s.station.state = .member
  | .report _ _ _ _ _ => (s.station.state = .listen ∨ s.station.state = .member) ∧ s.recount.phase = .window
  | .slow => s.station.state = .member

/-- The claim target T of R50: H, d_own and, while another member is starved, E_own, with E_own and the starved
set last heard (log 23); until the engine has recomputed the entitlements from an own DEMAND, no more than the
demand recorded before it (log 38). -/
def State.aim (s : State) : Nat :=
  let wanted := min (min s.grant.demand s.dOwn) s.grant.sharedDemand
  if ∃ n ∈ s.grant.seen.starved, n ≠ s.own then min wanted s.grant.seen.entitlement else wanted

/-- The ten conditions of R51, in its order, and the one that log 9 adds: no own CLAIM waits in the ring. -/
def State.claims (s : State) : Prop :=
  (s.station.state = .member ∧ s.recount.phase = .none) ∧
  (s.table.suspect = false ∧ s.table.diverged = false) ∧
  (s.recount.requested = false ∧ s.recount.causes = ⟨false, false, false⟩) ∧
  s.grant.cutoff = false ∧ s.grant.lower = none ∧ s.grant.applied = s.gOwn ∧ s.grant.backoff = false ∧
  (∀ sl ∈ s.queue, sl.kind ≠ .claim) ∧ 0 < s.budget - s.table.sum ∧ s.gOwn < s.aim ∧
  ∀ e ∈ s.ring.entries, e.own = true → e.frame.kind ≠ .claim

/-- Snapshot `b` holds what R29 lists, as it stands in `s`: the 32 entries, with ages and ghost times in
milliseconds, epoch, TSN, roster, ghost set, sum, free, OVER, rotor start, starved set and pass count. -/
def State.copiedTo (s : State) (b : Snapshot) : Prop :=
  b.entries.length = s.table.entries.length ∧
  (∀ n : StationNo, b.entries.getD n.val .absent =
    match s.table.entryAt n with
    | .absent => .absent
    | .member m => .member m.weight m.demand m.grant m.entitlement
        (min 65535 ((s.now - m.since) / 2000)) m.silent m.confirmed
    | .ghost ⟨g, none⟩ => .ghost g 0
    | .ghost ⟨g, some ends⟩ => .ghost g ((ends - s.now + 1999) / 2000)) ∧
  b.epoch = s.table.epoch ∧ b.tsn = s.table.tsn ∧
  (∀ n, n ∈ b.roster ↔ ∃ m, s.table.entryAt n = .member m) ∧
  (∀ n, n ∈ b.ghosts ↔ ∃ g, s.table.entryAt n = .ghost g) ∧
  b.sum = s.table.sum ∧ b.free = s.budget - s.table.sum ∧ b.isOver = decide (s.budget < s.table.sum) ∧
  b.rotor = s.table.epoch.toNat % 32 ∧ b.starved = s.table.starved ∧ b.passes = s.engine.lastPasses

/-- The station has settled (R88, R89, R104): phase NONE, recount count 0, check timer stopped, guard and beacon
timers started. -/
def State.settlesAt (s t : State) : Prop :=
  t.recount.phase = .none ∧ t.recount.count = 0 ∧ t.recount.checkTimer = none ∧
  t.recount.guardTimer = some (t.now + ms (2 ^ s.config.windowExp.toNat)) ∧
  t.station.beaconTimer = some (t.now + ms (2 ^ (s.config.silenceExp.toNat - 2)))

/-- No close BEACON stands in the queue any longer (R89, R152). -/
def noCloseBeacon (q : List Slot) : Prop :=
  ∀ sl ∈ q, sl.payload ≠ .beacon true ∧ sl.followOn ≠ some (.beacon true)

/-- The values of a state-entry clear (R9, R30, R69, R99, R155): the snapshot and the deferral stay. -/
def State.clearedFrom (s t : State) : Prop :=
  t.table = { Table.reset with
    snapshot := s.table.snapshot
    snapNumber := s.table.snapNumber
    snapPending := s.table.snapPending } ∧
  t.engine = Engine.reset ∧ t.recount = Recount.reset ∧
  t.ring = { Ring.reset with deferral := s.ring.deferral } ∧
  (∀ sl ∈ t.queue, sl.state = .onLine ∧ sl.finishing = true ∧ sl.flushed = true ∧ sl.followOn = none) ∧
  t.grant.backoff = false

/-- The station has entered ISOLATED (R99, R109): the event, the clear, the lower request of R64, and with A at 0
the isolation hold (R67, R111). -/
def State.isolatedFrom (s t : State) : Prop :=
  t.station = { Station.reset with
    state := .isolated
    holdTimer := if s.grant.applied = 0 then some (t.now + ms (2 ^ (s.config.silenceExp.toNat + 1))) else none } ∧
  s.clearedFrom t ∧ t.events.flagSet .isolated ∧ s.loweredToNothing t

/-- The mask bit of event `e` is set. -/
def EventUnit.masked (u : EventUnit) (e : Event) : Prop := u.mask.getLsbD (e.rank - 1) = true

/-- The Table Unit takes ring entry `e` next, `rest` staying in the ring (R10). -/
def State.takes (s : State) (e : RingEntry) (rest : List RingEntry) : Prop :=
  s.resetLow = false ∧ s.engine.run = none ∧ s.table.snapPending = false ∧
  s.recount.closeWaiting = false ∧ s.station.listenWaiting = false ∧ s.ring.entries = e :: rest

/-- Frame `f`, with its own flag, passes the first two checks of R11. -/
def State.admits (s : State) (f : Frame) (own : Bool) : Prop :=
  ¬ (f.sender = s.own ∧ own = false) ∧ ∀ d, f.body.digest? = some d → d = s.digest

/-- A frame of member `m` that the Table Unit compares and finds in step with the own table (R14). -/
def State.inStep (s : State) (f : Frame) (own : Bool) (m : Member) : Prop :=
  s.working ∧ s.table.entries.length = 32 ∧ s.admits f own ∧ s.table.member? f.sender = some m ∧
  f.epoch = s.table.epoch ∧ f.tsn = s.table.tsn

end Sys2Proof.Machine
end

