-- ==== Sys2Proof/Certificates/Slice0/Obligations.lean ====
section
/-! DEFINITION. The statements for the provers, from the manual's numbered rules. -/

open Sys2Proof Sys2Proof.Machine

/-! ### Steps and queue -/

/-- For every command and state: a step takes the command at the front of the queue and runs `exec` of it on
the state with the queue's rest. -/
def Obligations.StepTakesTheFrontCommand : Prop :=
  ∀ (c : Instr) (rest : List Instr) (s : State), s.pending = c :: rest →
    step s = exec c { s with pending := rest }

/-- With no command waiting the part's own clock runs: the own event that is due is put in the queue, or
else half a microsecond passes. The model's choice (log 3). -/
def Obligations.EmptyQueueRunsTheClock : Prop :=
  ∀ s : State, s.pending = [] →
    (s.dueCommand = none → step s = .next { s with now := s.now + 1 }) ∧
    (∀ c, s.dueCommand = some c → step s = .next { s with pending := [c] })

/-! ### Start (11) -/

/-- POWER_RESET: every block at its POWER reset values, CUTOFF high, MISO undriven, ALERTN, CFG_SCL and CFG_SDA
released, LDRV low; time, CSN and the waiting commands are no block's. The values the manual does not give, of the
station number, the bit rate code, the line moment, Grant Control's last notice and the demand it goes by (log 7),
and 0 for the count of draws (log 6), are the model's choices. -/
def Obligations.PowerResetClearsEveryBlock : Prop :=
  ∀ s : State,
    ∃ t, exec .powerReset s = .next t ∧
      t = { State.reset with now := s.now, csnHigh := s.csnHigh, pending := s.pending } ∧
      State.reset.grant.applied = 0 ∧ State.reset.grant.demand = 0 ∧ State.reset.grant.cutoff = true ∧
      State.reset.station.state = .loading ∧ State.reset.queue = [] ∧ State.reset.ring.entries = [] ∧
      State.reset.table.roster = [] ∧ State.reset.events.flags = 0 ∧ State.reset.events.mask = 0 ∧
      t.cutoffHigh = true ∧ t.misoDriven = false ∧ t.alertnLow = false ∧ t.ldrvHigh = false ∧
      t.cfgSclReleased = true ∧ t.cfgSdaReleased = true

/-- RESET_RELEASE: the straps are sampled, the read begins, and the port is IDLE if CSN is high. -/
def Obligations.ResetReleaseSamplesTheStraps : Prop :=
  ∀ (s : State) (straps : BitVec 5), s.resetLow = true →
    exec (.resetRelease straps) s = .next { s with
      resetLow := false
      loader := { s.loader with stationNumber := straps.toFin, reading := .attempt }
      port := { s.port with state := if s.csnHigh = true then .idle else .spent } }

/-- A read attempt that ends with a valid record: record and digest are held, the station enters LISTEN
with its listen timer at T_listen, and the Line Interface takes the rate and waits for released line. -/
def Obligations.ValidRecordEntersListen : Prop :=
  ∀ (s : State) (r : ConfigRecord), s.resetLow = false → s.station.state = .loading →
    s.loader.reading = .attempt → recordValid r →
    ∃ t, exec (.readAttemptComplete r) s = .next t ∧
      t.loader = { s.loader with
        record := some r, recordValid := true, digest := some (crc (digestBytes r)), reading := .off } ∧
      t.station = { Station.reset with
        state := .listen, listenTimer := some (s.now + ms (2 ^ r.silenceExp.toNat)) } ∧
      t.line = { s.line with
        state := .starting, since := s.now, rateCode := r.rateCode.setWidth 2 } ∧
      s.clearedFrom t ∧ t.grant.demand = s.grant.demand ∧ t.grant.applied = s.grant.applied ∧
      t.grant.cutoff = s.grant.cutoff ∧ t.grant.lower = s.grant.lower ∧ t.events = s.events ∧
      t.port = s.port ∧ t.now = s.now ∧ t.csnHigh = s.csnHigh ∧ t.pending = s.pending

/-- A read attempt that ends with an invalid record: record and digest are held all the same, the record
valid flag stays as it was, and the station enters FAULT with CONFIG_FAULT; nothing else changes. -/
def Obligations.InvalidRecordEntersFault : Prop :=
  ∀ (s : State) (r : ConfigRecord), s.resetLow = false → s.station.state = .loading →
    s.loader.reading = .attempt → ¬ recordValid r →
    exec (.readAttemptComplete r) s = .next { s with
      loader := { s.loader with
        record := some r, digest := some (crc (digestBytes r)), reading := .off }
      station := { s.station with state := .fault }
      events := { s.events with flags := s.events.flags ||| Event.configFault.bit } }

/-- A read attempt goes through the device address with the write direction, the word address, a repeated start,
the device address with the read direction, and sixteen bytes; a memory that answers all of it ends it with
those bytes, SDA low at a start or a missing acknowledge fails it, and so does SCL held low for more than 1 ms. A
failed attempt, of either kind: below three failures a wait of 1 ms, at whose end a new attempt begins; at the
third FAULT with CONFIG_FAULT and no record. That an attempt's end joins the waiting commands (log 20), and that
the expiry carries the running time to its moment (log 4), are the model's choices. -/
def Obligations.FailedAttemptsAreRetriedTwice : Prop :=
  (readAttempt = [.start, .send 0xA0, .send 0x00, .start, .send 0xA1] ++
    List.replicate 15 (.receive true) ++ [.receive false, .stop]) ∧
  (∀ (s : State) (good rest : List BusAnswer), s.station.state = .loading → s.loader.reading = .attempt →
    (∀ a ∈ good, a.held ≤ ms 1 ∧ a.sdaLow = false ∧ a.acknowledge = true) →
    let ends := fun c : Instr => s.busAttempt (good ++ rest) = { s with pending := s.pending ++ [c] }
    (good.length = 22 → ∀ r : ConfigRecord, recordBytes r = ((good.drop 5).take 16).map BusAnswer.byte →
      ends (.readAttemptComplete r)) ∧
    (good.length < 22 → rest = [] → s.busAttempt good = s) ∧
    (good.length < 22 → ∀ bad more, rest = bad :: more →
      (ms 1 < bad.held → ends .sclHoldTimeout) ∧
      (bad.held ≤ ms 1 → good.length = 0 ∨ good.length = 3 → bad.sdaLow = true →
        ends .readAttemptFailed) ∧
      (bad.held ≤ ms 1 → good.length = 1 ∨ good.length = 2 ∨ good.length = 4 → bad.acknowledge = false →
        ends .readAttemptFailed))) ∧
  (∀ (s : State) (till : Time), s.resetLow = false → s.loader.reading = .waiting till →
    exec .readRetryWaitExpiry s = .next { s with
      now := max s.now till, loader := { s.loader with reading := .attempt } }) ∧
  ∀ (s : State) (c : Instr), c = .readAttemptFailed ∨ c = .sclHoldTimeout →
    s.resetLow = false → s.station.state = .loading → s.loader.reading = .attempt →
    (s.loader.attempts < 2 →
      exec c s = .next { s with loader := { s.loader with
        attempts := s.loader.attempts + 1, reading := .waiting (s.now + ms 1) } }) ∧
    (s.loader.attempts = 2 →
      exec c s = .next { s with
        loader := { s.loader with attempts := 3, reading := .off }
        station := { s.station with state := .fault }
        events := { s.events with flags := s.events.flags ||| Event.configFault.bit } })

/-! ### Local Port (09) -/

/-- TRANSACTION_BEGIN, LAST_DATA_BYTE_SENT and TRANSACTION_END: the states of R170, the greeting byte of
1010 and the station state code, and the drop of what was not taken or not sent. That the first falling edge,
which reads the state for the greeting, is in the step of TRANSACTION_BEGIN is the model's choice (log 21). -/
def Obligations.TransactionsFollowChipSelect : Prop :=
  ∀ s : State, s.resetLow = false →
    (s.port.state = .idle →
      exec .transactionBegin s = .next { s with
        csnHigh := false
        port := ⟨.collecting, some (0xA0#8 ||| s.station.state.code), none⟩ }) ∧
    (s.port.state = .collecting →
      s.sclkFirstFall =
        { s with port := { s.port with greeting := some (0xA0#8 ||| s.station.state.code) } }) ∧
    (s.port.state = .answering →
      exec .lastDataByteSent s = .next { s with port := { s.port with state := .spent } }) ∧
    exec .transactionEnd s = .next { s with csnHigh := true, port := ⟨.idle, none, none⟩ }

/-- UNKNOWN_REQUEST: an unassigned code is answered UNKNOWN with no data and no effect. The bytes that spell a
request, its code and arguments, make that request whatever follows them; bits make bytes most significant
first, a byte cut off part way is discarded, and a request is taken once, at its last bit. That the command of a
request so completed joins the end of the waiting commands is the model's choice (log 21). -/
def Obligations.UnknownCodeIsAnsweredUnknown : Prop :=
  (∀ (s : State) (code : Byte), s.collecting → code ∉ assignedCodes →
    exec (.unknownRequest code) s = .next (s.afterAnswer 0 .unknown [])) ∧
  (∀ (c : Instr) (more : List Byte), c.wellFormed = true → requestBytes c ≠ [] →
    requestOf (requestBytes c ++ more) = some c) ∧
  (∀ (l : List Byte) (c : Instr), requestOf l = some c →
    c.wellFormed = true ∧ requestBytes c ≠ [] ∧ requestBytes c <+: l) ∧
  (∀ (l : List Byte) (bits : List Bool), bits.length < 8 → completeBytes (bytesBits l ++ bits) = l) ∧
  ∀ (s : State) (c : Instr) (bits : List Bool) (bit : Bool), s.csnHigh = false → s.collecting →
    c.wellFormed = true → requestBytes c ≠ [] → bits ++ [bit] = bytesBits (requestBytes c) →
    s.sclkRise bits bit = { s with pending := s.pending ++ [c] } ∧
    ∀ (more : List Bool) (next : Bool), s.sclkRise (bits ++ [bit] ++ more) next = s

/-- STATUS: 27 bytes in the layout of section 9.7, and no effect on any block; g_own, E_own and d_own are
0 while the station is not MEMBER, and the fields of an absent lower request are 0. -/
def Obligations.StatusReturnsItsLayout : Prop :=
  ∀ s : State, s.collecting →
    ∃ own lower : List Byte,
      exec .status s = .next (s.afterAnswer 0 .ok
        ([s.station.state.code, s.recount.phase.code,
            bitsByte false s.recount.requested s.grant.cutoff (decide (s.budget < s.table.sum))
              s.table.suspect s.table.diverged s.ring.deferral.isSome (decide (s.ring.flow ≠ .off))] ++
          be16 s.table.epoch ++ be16 s.table.tsn ++ be32 (vectorOf s.table.roster) ++
          nat16 s.grant.applied ++ own ++ nat16 s.grant.demand ++ lower ++ [nat8 s.events.top])) ∧
      own.length = 6 ∧ lower.length = 5 ∧
      (s.station.state = .member → own = nat16 s.gOwn ++ nat16 s.eOwn ++ nat16 s.dOwn) ∧
      (s.station.state ≠ .member → own = [0, 0, 0, 0, 0, 0]) ∧
      (s.grant.lower = none → lower = [0, 0, 0, 0, 0]) ∧
      (∀ r, s.grant.lower = some r →
        lower = [r.cause.code] ++ nat16 r.target ++ nat16 ((r.deadline - s.now) / 2000))

/-- SET_DEMAND and CONFIRM are refused with STATE in LOADING and FAULT, a SET_DEMAND above the station cap
with RANGE, and a CONFIRM at or above A is answered NO_EFFECT with A and H; nothing else changes. -/
def Obligations.GrantRequestsOutOfPlaceAreRefused : Prop :=
  ∀ (s : State) (v : Half), s.collecting →
    (s.station.state = .loading ∨ s.station.state = .fault →
      exec (.setDemand v) s = .next (s.afterAnswer 2 .state []) ∧
      exec (.confirm v) s = .next (s.afterAnswer 2 .state [])) ∧
    (s.station.state ≠ .loading → s.station.state ≠ .fault → s.stationCap < v.toNat →
      exec (.setDemand v) s = .next (s.afterAnswer 2 .range [])) ∧
    (s.station.state ≠ .loading → s.station.state ≠ .fault → s.grant.applied ≤ v.toNat →
      exec (.confirm v) s = .next
        (s.afterAnswer 2 .noEffect (nat16 s.grant.applied ++ nat16 s.grant.demand)))

/-- SET_DEMAND(v) within the cap: H is v, A is the smaller of A and v, and the answer carries both. With v
below A the lower request, the events, the station's isolation hold and the queue follow R49; with v at or
above A neither the lower request, the events nor the station's items change. A settled station with room
keeps a DEMAND of a changed H. The need is looked at against the last notice (log 23). -/
def Obligations.SetDemandSetsHAndTrimsA : Prop :=
  ∀ (s : State) (v : Half), s.collecting → s.station.state ≠ .loading → s.station.state ≠ .fault →
    v.toNat ≤ s.stationCap →
    ∃ t, exec (.setDemand v) s = .next t ∧
      t.grant.demand = v.toNat ∧ t.grant.applied = min s.grant.applied v.toNat ∧
      t.grant.cutoff = s.grant.cutoff ∧ t.grant.backoff = s.grant.backoff ∧
      t.port = ⟨.answering, s.port.greeting,
        some ⟨2, .ok, nat16 t.grant.applied ++ nat16 t.grant.demand⟩⟩ ∧
      s.sameOutsideGrant t ∧ t.station.state = s.station.state ∧
      (v.toNat < s.grant.applied → s.loweredTo t v) ∧
      (s.grant.applied ≤ v.toNat →
        t.grant.lower = s.grant.lower ∧ t.events = s.events ∧ t.station = s.station) ∧
      (s.settled → queueSound s.queue → s.queue.length ≤ 1 → v.toNat ≠ s.grant.demand →
        v.toNat ≠ s.dOwn → carries t.queue (.demand v))

/-- CONFIRM(v) below A: A is v and the answer OK with A and H; H, CUTOFF and claim back-off stay, and the lower
request, the events, the station's isolation hold and the queue follow R49. The need is looked at against the
last notice (log 23). -/
def Obligations.ConfirmBelowALowersA : Prop :=
  ∀ (s : State) (v : Half), s.collecting → s.station.state ≠ .loading → s.station.state ≠ .fault →
    v.toNat < s.grant.applied →
    ∃ t, exec (.confirm v) s = .next t ∧
      t.grant.applied = v.toNat ∧ t.grant.demand = s.grant.demand ∧
      t.grant.cutoff = s.grant.cutoff ∧ t.grant.backoff = s.grant.backoff ∧
      t.port = ⟨.answering, s.port.greeting,
        some ⟨2, .ok, nat16 v.toNat ++ nat16 s.grant.demand⟩⟩ ∧
      s.sameOutsideGrant t ∧ t.station.state = s.station.state ∧ s.loweredTo t v

/-- A CONFIRM that brings A to the target satisfies the lower request and raises nothing; one that leaves A
above it keeps target and deadline. For a YIELD request the need is looked at against the last notice: an
E_own equal to the target, with another member starved. -/
def Obligations.ConfirmMeetsOrKeepsTheRequest : Prop :=
  ∀ (s : State) (v : Half) (r : LowerRequest), s.collecting → v.toNat < s.grant.applied →
    s.grant.lower = some r →
    s.station.state = .isolated ∨ s.station.state = .barred ∨
      (s.working ∧ r.cause = .yield ∧ s.grant.seen.entitlement = r.target ∧ s.othersStarved) →
    ∃ t, exec (.confirm v) s = .next t ∧ t.grant.applied = v.toNat ∧ t.events = s.events ∧
      (v.toNat ≤ r.target → t.grant.lower = none) ∧
      (r.target < v.toNat → t.grant.lower = some r)

/-- A CONFIRM(0) that lowers A in ISOLATED satisfies the ISOLATE request and starts the isolation hold at
T_iso_hold, unless it runs already. -/
def Obligations.ConfirmZeroStartsTheIsolationHold : Prop :=
  ∀ (s : State) (r : LowerRequest), s.collecting → s.station.state = .isolated →
    0 < s.grant.applied → s.grant.lower = some r → r.target = 0 → s.station.holdTimer = none →
    ∃ t, exec (.confirm 0) s = .next t ∧ t.grant.applied = 0 ∧ t.grant.lower = none ∧
      t.station = { s.station with
        holdTimer := some (s.now + ms (2 ^ (s.config.silenceExp.toNat + 1))) } ∧
      t.events = s.events ∧ s.sameOutsideGrant t

/-- CLEAR_CUTOFF: deasserts an asserted CUTOFF and leaves A, H, the lower request and claim back-off as they
are; NO_EFFECT when it is deasserted; STATE in ISOLATED, BARRED, LOADING and FAULT. -/
def Obligations.ClearCutoffDeasserts : Prop :=
  ∀ s : State, s.collecting →
    (s.station.state = .listen ∨ s.station.state = .member ∨ s.station.state = .parked →
      (s.grant.cutoff = true → ∃ t, exec .clearCutoff s = .next t ∧
        t.grant = { s.grant with cutoff := false } ∧ t.cutoffHigh = false ∧
        t.port = ⟨.answering, s.port.greeting, some ⟨0, .ok, []⟩⟩ ∧
        t.events = s.events ∧ t.station = s.station ∧ s.sameOutsideGrant t) ∧
      (s.grant.cutoff = false → exec .clearCutoff s = .next (s.afterAnswer 0 .noEffect []))) ∧
    (s.station.state = .isolated ∨ s.station.state = .barred ∨ s.station.state = .loading ∨
        s.station.state = .fault →
      exec .clearCutoff s = .next (s.afterAnswer 0 .state []))

/-- TAKE_SNAPSHOT and SNAPSHOT_TAKEN: with the Table Unit idle the snapshot, a copy of the entries and the
values that R29 lists, is taken at once, otherwise it becomes pending; a request while one is pending is absorbed; each is answered with the number the snapshot
will carry. A pending snapshot is taken once the Table Unit is idle. The millisecond grid of the ages and ghost
times copied (log 22), and R28 and R175 followed where the row of R182 has the two cases the other way round
(log 32), are the model's choices. -/
def Obligations.SnapshotsAreTakenWhenIdle : Prop :=
  ∀ s : State, ∃ b : Snapshot, s.copiedTo b ∧
    (s.collecting → s.station.state ≠ .loading → s.station.state ≠ .fault →
      ∃ number : Byte, number = BitVec.ofNat 8
          (if s.table.snapNumber = 255 then 1 else s.table.snapNumber + 1) ∧
        (s.table.snapPending = true → exec .takeSnapshot s = .next (s.afterAnswer 0 .ok [number])) ∧
        (s.table.snapPending = false → s.engine.run ≠ none →
          exec .takeSnapshot s = .next
            ({ s with table := { s.table with snapPending := true } }.afterAnswer 0 .ok [number])) ∧
        (s.table.snapPending = false → s.engine.run = none →
          exec .takeSnapshot s = .next
            ({ s with table := { s.table with
                snapshot := some b
                snapNumber := if s.table.snapNumber = 255 then 1 else s.table.snapNumber + 1
                snapPending := false } }.afterAnswer 0 .ok [number]))) ∧
    (s.resetLow = false → s.table.snapPending = true → s.engine.run = none →
      exec .snapshotTaken s = .next { s with table := { s.table with
        snapshot := some b
        snapNumber := if s.table.snapNumber = 255 then 1 else s.table.snapNumber + 1
        snapPending := false } }) ∧
    (s.collecting → s.station.state = .loading ∨ s.station.state = .fault →
      exec .takeSnapshot s = .next (s.afterAnswer 0 .state []))

/-- READ_SUMMARY and READ_ENTRY read the snapshot buffer and change nothing: NOT_READY while it is not
valid, RANGE for a station number above 31, otherwise the bytes of section 9.7. -/
def Obligations.SnapshotReadsFollowValidity : Prop :=
  ∀ (s : State) (n : Byte), s.collecting →
    (s.table.snapshot = none →
      exec .readSummary s = .next (s.afterAnswer 0 .notReady []) ∧
      (n.toNat ≤ 31 → exec (.readEntry n) s = .next (s.afterAnswer 1 .notReady []))) ∧
    (31 < n.toNat → exec (.readEntry n) s = .next (s.afterAnswer 1 .range [])) ∧
    (∀ b, s.table.snapshot = some b →
      exec .readSummary s = .next (s.afterAnswer 0 .ok
        ([nat8 s.table.snapNumber, bitsByte false false false false false false s.table.snapPending b.isOver] ++
          be16 b.epoch ++ be16 b.tsn ++ be32 (vectorOf b.roster) ++ be32 (vectorOf b.ghosts) ++
          nat24 b.sum ++ nat16 b.free ++ [nat8 b.rotor] ++ be32 (vectorOf b.starved) ++
          [nat8 b.passes])) ∧
      (n.toNat ≤ 31 → exec (.readEntry n) s = .next (s.afterAnswer 1 .ok
        ([nat8 s.table.snapNumber] ++
          match b.entries.getD n.toNat .absent with
          | .absent => List.replicate 13 0
          | .member weight d g e age silent confirmed =>
            [1, nat8 weight] ++ nat16 d ++ nat16 g ++ nat16 e ++ nat16 age ++
              [bitsByte false false false false false false confirmed silent, 0, 0]
          | .ghost g left => [2, 0, 0, 0] ++ nat16 g ++ [0, 0, 0, 0, 0] ++ nat16 left))))

/-- READ_EVENTS, READ_COUNTERS and READ_CONFIG return what the Event Unit and the Loader hold and have no
effect; READ_CONFIG is answered NOT_READY while no record has been read. -/
def Obligations.ReadsReturnWhatIsHeld : Prop :=
  ∀ s : State, s.collecting →
    exec .readEvents s = .next (s.afterAnswer 0 .ok
      (be16 (s.events.flags.setWidth 16) ++ be16 (s.events.mask.setWidth 16) ++ [nat8 s.events.top])) ∧
    exec .readCounters s = .next (s.afterAnswer 0 .ok
      (nat16 s.events.counters.frameErrors ++ nat16 s.events.counters.staleFrames ++
        nat16 s.events.counters.mismatches ++ nat16 s.events.counters.collisions ++
        nat16 s.events.counters.abandoned ++ nat16 s.events.counters.ringOverflows ++
        nat16 s.events.counters.recounts)) ∧
    (s.loader.record = none → exec .readConfig s = .next (s.afterAnswer 0 .notReady [])) ∧
    (∀ r d, s.loader.record = some r → s.loader.digest = some d →
      exec .readConfig s = .next (s.afterAnswer 0 .ok
        ([r.magicHi, r.magicLo, r.budgetHi, r.budgetLo, r.capHi, r.capLo, r.weight, r.rateCode,
          r.silenceExp, r.windowExp, r.slowExp, r.yieldExp, r.spare0, r.spare1, r.spare2, r.check] ++
          [nat8 s.loader.stationNumber.val] ++ be16 d)))

/-- CLEAR_EVENTS: exactly the flags named in the argument are cleared, whatever was raised before, and a
later raise sets them again; the answer carries the flags as they stand. A spare bit set gives RANGE and
clears nothing. -/
def Obligations.ClearEventsClearsTheNamedFlags : Prop :=
  ∀ (s : State) (mask : Half), s.collecting →
    (mask.toNat < 8192 →
      ∃ t, exec (.clearEvents mask) s = .next t ∧
        t = { s with events := { s.events with flags := t.events.flags } }.afterAnswer 2 .ok
          (be16 (t.events.flags.setWidth 16)) ∧
        (∀ e : Event, t.events.flagSet e ↔
          s.events.flagSet e ∧ mask.getLsbD (e.rank - 1) = false) ∧
        (∀ e : Event, (t.raise e).events.flagSet e) ∧
        (∀ e : Event, mask.getLsbD (e.rank - 1) = true →
          ∀ u, exec (.clearEvents mask) (s.raise e) = .next u → ¬ u.events.flagSet e)) ∧
    (8192 ≤ mask.toNat → exec (.clearEvents mask) s = .next (s.afterAnswer 2 .range []))

/-- SET_MASK replaces the whole mask and changes no flag; ALERTN and the top event follow at once, and
READ_EVENTS reads the mask back. A spare bit set gives RANGE and leaves the mask. -/
def Obligations.SetMaskReplacesTheMask : Prop :=
  ∀ (s : State) (mask : Half), s.collecting →
    (mask.toNat < 8192 →
      ∃ t, exec (.setMask mask) s = .next t ∧
        t = { s with events := { s.events with mask := mask.setWidth 13 } }.afterAnswer 2 .ok [] ∧
        (∀ e : Event, t.events.masked e ↔ mask.getLsbD (e.rank - 1) = true) ∧
        (∀ e : Event, t.events.flagSet e ↔ s.events.flagSet e) ∧
        (t.alertnLow = true ↔ ∃ e : Event, s.events.flagSet e ∧ mask.getLsbD (e.rank - 1) = false) ∧
        (∀ e : Event, t.events.top = e.rank → s.events.flagSet e ∧ mask.getLsbD (e.rank - 1) = false) ∧
        (t.eventsData.drop 2).take 2 = be16 mask) ∧
    (8192 ≤ mask.toNat → exec (.setMask mask) s = .next (s.afterAnswer 2 .range []))

/-- The top event is the event of lowest rank whose flag is set and whose mask bit is clear, 0 for none;
STATUS and READ_EVENTS carry it in their last byte; ALERTN is low exactly while it is not none. -/
def Obligations.TopEventIsTheLowestUnmaskedRank : Prop :=
  ∀ s : State,
    (s.events.top = 0 ↔ ∀ e : Event, ¬ (s.events.flagSet e ∧ ¬ s.events.masked e)) ∧
    (∀ e : Event, s.events.top = e.rank ↔
      (s.events.flagSet e ∧ ¬ s.events.masked e) ∧
        ∀ o : Event, o.rank < e.rank → ¬ (s.events.flagSet o ∧ ¬ s.events.masked o)) ∧
    s.events.top ≤ 13 ∧
    s.statusData.getD 26 0 = nat8 s.events.top ∧ s.eventsData.getD 4 0 = nat8 s.events.top ∧
    (s.alertnLow = true ↔ s.events.top ≠ 0)

/-- CLEAR_COUNTERS sets all seven counters to 0 in one step and is answered OK: an increment taken before it
is lost, one taken after it leaves 1. -/
def Obligations.ClearCountersSetsAllToZero : Prop :=
  ∀ s : State, s.collecting →
    ∃ t, exec .clearCounters s = .next t ∧
      t = { s with events := { s.events with counters := ⟨0, 0, 0, 0, 0, 0, 0⟩ } }.afterAnswer 0 .ok [] ∧
      exec .clearCounters s.countFrameError = .next t ∧ exec .clearCounters s.countStale = .next t ∧
      exec .clearCounters s.countMismatch = .next t ∧ exec .clearCounters s.countCollision = .next t ∧
      exec .clearCounters s.countAbandoned = .next t ∧
      exec .clearCounters s.countRingOverflow = .next t ∧ exec .clearCounters s.countRecount = .next t ∧
      t.countFrameError.events.counters = ⟨1, 0, 0, 0, 0, 0, 0⟩ ∧
      t.countStale.events.counters = ⟨0, 1, 0, 0, 0, 0, 0⟩ ∧
      t.countMismatch.events.counters = ⟨0, 0, 1, 0, 0, 0, 0⟩ ∧
      t.countCollision.events.counters = ⟨0, 0, 0, 1, 0, 0, 0⟩ ∧
      t.countAbandoned.events.counters = ⟨0, 0, 0, 0, 1, 0, 0⟩ ∧
      t.countRingOverflow.events.counters = ⟨0, 0, 0, 0, 0, 1, 0⟩ ∧
      t.countRecount.events.counters = ⟨0, 0, 0, 0, 0, 0, 1⟩

/-- LEAVE: OK in MEMBER, phase NONE, with A and g_own at 0 and no LEAVE queued; then a recount is requested
with cause LEAVE and a target one past the highest epoch heard, in place of the cause of an own RECOUNT that
is queued already, and a full queue makes room. NO_EFFECT when a LEAVE is queued; STATE otherwise. The own
epoch for a highest epoch heard that is absent (log 19), and NO_EFFECT in WINDOW and CHECK too (log 16), are
the model's choices. -/
def Obligations.LeaveRequestsARecount : Prop :=
  ∀ s : State, s.collecting →
    (s.settled → s.grant.applied = 0 → s.gOwn = 0 → ¬ s.leaveQueued → queueSound s.queue →
      ∃ t, exec .leave s = .next t ∧
        carries t.queue (.recount (s.recount.highest.getD s.table.epoch + 1) .leave) ∧
        (slotOf .recount s.queue = none → ∃ sl ∈ t.queue,
          sl.payload = .recount (s.recount.highest.getD s.table.epoch + 1) .leave ∧
          sl.state = .queued ∧ sl.attempts = 0) ∧
        (s.recount.requested = false → noneWaits t.queue .claim) ∧
        t.port = ⟨.answering, s.port.greeting, some ⟨0, .ok, []⟩⟩ ∧
        t.station = s.station ∧ t.grant = s.grant ∧ t.table = s.table ∧ t.events = s.events ∧
        t.engine = s.engine ∧ t.ring.entries = s.ring.entries ∧ t.loader = s.loader ∧
        t.line = s.line ∧ t.now = s.now ∧ t.pending = s.pending ∧
        t.recount = { s.recount with requested := true }) ∧
    (s.station.state = .member → s.leaveQueued →
      exec .leave s = .next (s.afterAnswer 0 .noEffect [])) ∧
    (s.station.state ≠ .member ∨
        ¬ s.leaveQueued ∧ ¬ (s.recount.phase = .none ∧ s.grant.applied = 0 ∧ s.gOwn = 0) →
      exec .leave s = .next (s.afterAnswer 0 .state []))

/-- JOIN: in PARKED the station enters LISTEN with its listen timer at T_listen, keeps H and CUTOFF, and the
answer is OK; in every other state STATE and nothing changes. -/
def Obligations.JoinLeavesParkedAlone : Prop :=
  ∀ s : State, s.collecting →
    (s.station.state = .parked →
      ∃ t, exec .join s = .next t ∧
        t.station = { Station.reset with
          state := .listen, listenTimer := some (s.now + ms (2 ^ s.config.silenceExp.toNat)) } ∧
        s.clearedFrom t ∧ t.grant.demand = s.grant.demand ∧ t.grant.applied = s.grant.applied ∧
        t.grant.cutoff = s.grant.cutoff ∧ t.grant.lower = s.grant.lower ∧ t.events = s.events ∧
        t.line = s.line ∧ t.loader = s.loader ∧
        t.port = ⟨.answering, s.port.greeting, some ⟨0, .ok, []⟩⟩ ∧
        t.now = s.now ∧ t.resetLow = s.resetLow ∧ t.csnHigh = s.csnHigh ∧ t.pending = s.pending) ∧
    (s.station.state ≠ .parked → exec .join s = .next (s.afterAnswer 0 .state []))

/-- RESTART with A at 0: CUTOFF asserted, H 0, queue, ring, table, snapshot and events emptied, the Loader
and the port kept, any transmission stopped, and the station in LISTEN with the Line Interface starting. With
A above 0, and in LOADING and FAULT, it is refused with STATE. That the restart is one step, in which LOADING is
not seen, is the model's choice (log 17). -/
def Obligations.RestartNeedsAAtZero : Prop :=
  ∀ s : State, s.collecting →
    (s.station.state ≠ .loading → s.station.state ≠ .fault → s.grant.applied = 0 →
      exec .restart s = .next { State.reset with
        now := s.now
        resetLow := false
        csnHigh := s.csnHigh
        loader := s.loader
        line := { Line.reset with
          state := .starting, since := s.now, rateCode := s.config.rateCode.setWidth 2
          draws := s.line.draws }
        station := { Station.reset with
          state := .listen, listenTimer := some (s.now + ms (2 ^ s.config.silenceExp.toNat)) }
        port := ⟨.answering, s.port.greeting, some ⟨0, .ok, []⟩⟩
        pending := s.pending }) ∧
    (s.station.state = .loading ∨ s.station.state = .fault ∨ s.grant.applied ≠ 0 →
      exec .restart s = .next (s.afterAnswer 0 .state []))

/-! ### Frames (06) -/

/-- The cells of every frame whose quantities are in range pass the receive checks and give back that frame:
kind, sender, epoch, TSN and every payload field. -/
def Obligations.ReceiveChecksGiveBackEveryFrame : Prop :=
  ∀ f : Frame, f.inRange → receiveCheck f.cells = some f

/-- Each of the seven checks of R130 rejects: a coding violation or a start other than the delimiter; a part of
a byte; a check that differs; a kind code 0 or above 8; a length other than the kind's; a spare bit in header
byte 0, header byte 1 or a REPORT's weight; a CLAIM of 0, a CLEAR above 31, a cause above 7, a weight of 0. -/
def Obligations.MalformedActivitiesAreRejected : Prop :=
  (∀ f : Frame, ¬ f.inRange → receiveCheck f.cells = none) ∧
  (∀ cells : List Cell,
    ((∃ c ∈ cells, c.first = c.second) → receiveCheck cells = none) ∧
    (∀ bits, cells = List.map cellOf bits →
      (bits.take 8 ≠ [true, false, true, true, false, false, true, false] →
        receiveCheck cells = none) ∧
      (bits.length % 8 ≠ 0 → receiveCheck cells = none))) ∧
  (∀ (l : List Byte) (check : Half), check ≠ crc l → receiveCheck (activityOf (l ++ be16 check)) = none) ∧
  (∀ l : List Byte, l.length < 8 → receiveCheck (activityOf l) = none) ∧
  ∀ (k n e1 e0 t1 t0 : Byte) (p : List Byte),
    let rejected := receiveCheck (activityOf (checked ([k, n, e1, e0, t1, t0] ++ p))) = none
    (k >>> 4 = 0 ∨ 8 < (k >>> 4).toNat → rejected) ∧
    (∀ kind : Kind, k >>> 4 = kindCode kind → p.length ≠ payloadLength kind → rejected) ∧
    (k &&& 0x0F ≠ 0 → rejected) ∧ (n &&& 0xE0 ≠ 0 → rejected) ∧
    (k >>> 4 = 3 → p = [0, 0] → rejected) ∧
    (k >>> 4 = 5 → (∃ x ∈ p, 31 < x.toNat) → rejected) ∧
    (k >>> 4 = 7 → (∃ x ∈ p.drop 2, 7 < x.toNat) → rejected) ∧
    (k >>> 4 = 8 → (∃ x ∈ (p.drop 2).take 1, x = 0 ∨ x &&& 0xF0 ≠ 0) → rejected)

/-- The length of a frame's cells is the bit times of R127, for every frame; and the manual's reference
values of the check and of a roster vector. -/
def Obligations.FrameLengthsInBitTimes : Prop :=
  crc [0x31, 0x32, 0x33, 0x34, 0x35, 0x36, 0x37, 0x38, 0x39] = 0x29B1 ∧
  vectorOf [3, 4, 6, 9] = 600 ∧
  ∀ f : Frame,
    f.cells.length = (match f.kind with
      | .beacon => 152
      | .demand => 88
      | .claim => 88
      | .release => 88
      | .clear => 80
      | .slow => 72
      | .recount => 96
      | .report => 144) ∧
    f.lineBits = f.cells.length + 2

/-- LINE_STARTUP_SETTLED: after 2 bit times of released line the Line Interface is IDLE with idle time 0; that
the command carries the running time to that moment is the model's choice (log 4). LINE_ACTIVITY_START on an
idle line: BUSY from now, and the backoff counting stops. -/
def Obligations.ActivityStopsTheCounts : Prop :=
  (∀ s : State, s.resetLow = false → s.line.state = .starting →
    ∃ t, exec .lineStartupSettled s = .next t ∧
      t = { s with
        now := max s.now (s.line.since + 2 * bitTime s.line.rateCode)
        line := { s.line with state := .idle, since := t.now, tx := .none } }) ∧
  ∀ s : State, s.resetLow = false → s.line.state = .idle →
    exec .lineActivityStart s = .next { s with
      line := { s.line with state := .busy, since := s.now, tx := .none }
      queue := s.queue.map fun sl => { sl with counted := 0 } }

/-- FRAME_RECEIVED with an activity that fails the receive checks: FRAME_ERROR raised and counted, SUSPECT
set, a waiting CLAIM withdrawn when SUSPECT becomes set, the line IDLE with idle time 0 at the end of frame,
and nothing of the frame used. The time of the end of frame (log 4), and an activity on a line still IDLE
taken to begin now (log 27), are the model's choices. -/
def Obligations.RejectedFramesSetSuspect : Prop :=
  ∀ (s : State) (cells : List Cell), s.resetLow = false →
    s.line.state = .busy ∨ s.line.state = .idle → s.line.tx = .none → receiveCheck cells = none →
    ∃ t, exec (.frameReceived cells) s = .next t ∧
      t.table = { s.table with suspect := true } ∧
      t.events = { s.events with
        flags := s.events.flags ||| Event.frameError.bit
        counters := { s.events.counters with
          frameErrors := min 65535 (s.events.counters.frameErrors + 1) } } ∧
      t.now = max s.now ((if s.line.state = .idle then s.now else s.line.since) +
        (cells.length + 2) * bitTime s.line.rateCode) ∧
      t.line = { s.line with state := .idle, since := t.now } ∧
      (s.table.suspect = false → noneWaits t.queue .claim) ∧
      (s.table.suspect = true ∨ noneWaits s.queue .claim → t.queue =
        if s.line.state = .idle then s.queue.map fun sl => { sl with counted := 0 } else s.queue) ∧
      t.ring.entries = s.ring.entries ∧ t.ring.lost = s.ring.lost ∧
      t.ring.deferral = s.ring.deferral ∧ t.engine = s.engine ∧ t.grant = s.grant ∧
      t.recount = s.recount ∧ t.station = s.station ∧ t.loader = s.loader ∧ t.port = s.port ∧
      t.resetLow = s.resetLow ∧ t.csnHigh = s.csnHigh ∧ t.pending = s.pending

/-- FRAME_RECEIVED with a valid frame other than a SLOW: with a place free, outside PARKED and ISOLATED, it is
stored at the newest end with its own flag clear, and nothing of the table, Grant Control, the recount or the
station changes before it is taken; in PARKED it is discarded. A MEMBER with its flow hold OFF that is left with
fewer than 4 free places asks for a SLOW; otherwise flow hold and queue stay. The time of the end of frame is
the model's choice (log 4). -/
def Obligations.ValidFramesAreStoredInOrder : Prop :=
  ∀ (s : State) (cells : List Cell) (f : Frame), s.resetLow = false → s.line.state = .busy →
    s.line.tx = .none → receiveCheck cells = some f → f.kind ≠ .slow →
    (s.station.state = .listen ∨ s.station.state = .member ∨ s.station.state = .barred →
      s.ring.entries.length < 16 →
      ∃ t, exec (.frameReceived cells) s = .next t ∧
        t.ring.entries = s.ring.entries ++ [⟨f, false⟩] ∧ t.ring.lost = s.ring.lost ∧
        t.ring.deferral = s.ring.deferral ∧ t.table = s.table ∧ t.engine = s.engine ∧
        t.grant = s.grant ∧ t.recount = s.recount ∧ t.station = s.station ∧ t.events = s.events ∧
        t.now = max s.now (s.line.since + (cells.length + 2) * bitTime s.line.rateCode) ∧
        t.line = { s.line with state := .idle, since := t.now } ∧ t.loader = s.loader ∧ t.port = s.port ∧
        t.resetLow = s.resetLow ∧ t.csnHigh = s.csnHigh ∧ t.pending = s.pending ∧
        t.ring.slowTimer = s.ring.slowTimer ∧
        (s.station.state = .member → s.ring.flow = .off → 12 ≤ s.ring.entries.length →
          t.ring.flow = .sending ∧
          (s.queue.length < 4 ∨ (∃ sl ∈ s.queue, sl.kind = .slow) →
            (∃ sl ∈ t.queue, sl.kind = .slow) ∧ ∀ sl ∈ s.queue, sl ∈ t.queue ∨ sl.kind = .slow)) ∧
        (s.station.state ≠ .member ∨ s.ring.flow ≠ .off ∨ s.ring.entries.length < 12 →
          t.ring.flow = s.ring.flow ∧ t.queue = s.queue)) ∧
    (s.station.state = .parked →
      exec (.frameReceived cells) s = .next { s with
        now := max s.now (s.line.since + (cells.length + 2) * bitTime s.line.rateCode)
        line := { s.line with
          state := .idle
          since := max s.now (s.line.since + (cells.length + 2) * bitTime s.line.rateCode) } })

/-- A frame that arrives at a full ring in LISTEN, MEMBER, ISOLATED or BARRED is dropped: RING_OVERFLOW raised and
counted, LOST set, the ring's frames unchanged; in MEMBER, phase NONE or CHECK, a recount is requested with cause
LOST, and elsewhere none is. That the watch of ISOLATED does not see a dropped frame is deduced (log 15). -/
def Obligations.FullRingDropsAndRecounts : Prop :=
  ∀ (s : State) (cells : List Cell) (f : Frame), s.resetLow = false → s.line.state = .busy →
    s.line.tx = .none → receiveCheck cells = some f → f.kind ≠ .slow →
    s.station.state = .listen ∨ s.station.state = .member ∨ s.station.state = .isolated ∨
      s.station.state = .barred →
    16 ≤ s.ring.entries.length →
    ∃ t, exec (.frameReceived cells) s = .next t ∧
      t.ring.entries = s.ring.entries ∧ t.ring.lost = true ∧
      t.events = { s.events with
        flags := s.events.flags ||| Event.ringOverflow.bit
        counters := { s.events.counters with
          ringOverflows := min 65535 (s.events.counters.ringOverflows + 1) } } ∧
      t.table = s.table ∧ t.grant = s.grant ∧ t.station = s.station ∧ t.engine = s.engine ∧
      t.ring.deferral = s.ring.deferral ∧ t.line = { s.line with state := .idle, since := t.now } ∧
      t.loader = s.loader ∧ t.port = s.port ∧ t.pending = s.pending ∧
      (s.station.state = .member → s.recount.phase ≠ .window →
        t.recount = { s.recount with requested := true } ∧ s.asksFor t .lost) ∧
      (s.station.state ≠ .member ∨ s.recount.phase = .window →
        t.recount = s.recount ∧ t.queue = s.queue)

/-- A SLOW of another station acts at its arrival in every receiving state but ISOLATED under the own number:
the deferral expiry becomes now + T_slow unless it is later already; the SLOW is not stored. -/
def Obligations.SlowFramesSetTheDeferral : Prop :=
  ∀ (s : State) (cells : List Cell) (f : Frame), s.resetLow = false → s.line.state = .busy →
    s.line.tx = .none → receiveCheck cells = some f → f.kind = .slow →
    ¬ (s.station.state = .isolated ∧ f.sender = s.own) →
    ∃ t, exec (.frameReceived cells) s = .next t ∧
      t.ring.entries = s.ring.entries ∧
      (s.ring.deferral = none → t.ring.deferral = some (t.now + ms s.tSlow)) ∧
      (∀ d, s.ring.deferral = some d → t.ring.deferral = some (max d (t.now + ms s.tSlow))) ∧
      t.table = s.table ∧ t.grant = s.grant ∧ t.recount = s.recount ∧ t.station = s.station ∧
      t.events = s.events ∧ t.engine = s.engine ∧ t.ring.lost = s.ring.lost ∧
      t.line = { s.line with state := .idle, since := t.now } ∧ t.loader = s.loader ∧
      t.port = s.port ∧ t.pending = s.pending

/-- The watch in ISOLATED: a stored frame of another station under the own number, or a BEACON or REPORT with
a differing digest, bars the station: BARRED raised, the values of a state-entry clear, and the lower request as
R64 says. So does a SLOW under the own number, which moves the deferral all the same. That the ring is empty after
the frame that bars the station, stored before the watch sees it, is the model's choice (log 37). -/
def Obligations.WatchBarsAnIsolatedStation : Prop :=
  ∀ (s : State) (cells : List Cell) (f : Frame), s.resetLow = false → s.line.state = .busy →
    s.line.tx = .none → receiveCheck cells = some f → s.station.state = .isolated →
    (f.kind = .slow → f.sender = s.own →
      ∃ t, exec (.frameReceived cells) s = .next t ∧ t.station = { Station.reset with state := .barred } ∧
        t.events.flagSet .barred ∧
        t.ring.deferral = some (max (s.ring.deferral.getD 0) (t.now + ms s.tSlow)) ∧
        { s with ring := { s.ring with deferral := t.ring.deferral } }.clearedFrom t ∧
        s.loweredToNothing t ∧ t.loader = s.loader ∧ t.port = s.port ∧ t.pending = s.pending) ∧
    (f.kind ≠ .slow → s.ring.entries.length < 16 → (f.sender = s.own ∨ ∃ d, f.body.digest? = some d ∧ d ≠ s.digest) →
      ∃ t, exec (.frameReceived cells) s = .next t ∧ t.station = { Station.reset with state := .barred } ∧
        t.events.flagSet .barred ∧ s.clearedFrom t ∧ s.loweredToNothing t ∧ t.loader = s.loader ∧
        t.port = s.port ∧ t.pending = s.pending) ∧
    (f.kind ≠ .slow → s.ring.entries.length < 16 →
      f.sender ≠ s.own ∧ (∀ d, f.body.digest? = some d → d = s.digest) →
      ∃ t, exec (.frameReceived cells) s = .next t ∧ t.station = s.station ∧
        t.ring.entries = s.ring.entries ++ [⟨f, false⟩] ∧ t.events = s.events ∧
        t.table = s.table ∧ t.grant = s.grant ∧ t.recount = s.recount ∧ t.queue = s.queue)

/-! ### Line access and the Transmit Queue (07) -/

/-- SLOT_START: the one slot chosen by class, age and standing among the QUEUED slots that R147 allows and whose
gap has run goes ON_LINE with one more attempt, and its frame, formed from the slot and the own table, is driven.
A slot that is not allowed does not start, and keeps its state, attempts and age. -/
def Obligations.SlotStartSendsTheChosenFrame : Prop :=
  (∀ s : State, s.resetLow = false → (s.queue.map Slot.kind).Nodup →
    ∃ t, exec .slotStart s = .next t ∧
      (∀ sl ∈ s.queue, ¬ (sl.state = .queued ∧ s.allows sl.payload) →
        ∃ o ∈ t.queue, o = { sl with counted := o.counted }) ∧
      ((∀ sl ∈ s.queue, ¬ (sl.state = .queued ∧ s.allows sl.payload)) → t = s)) ∧
  ∀ (s : State) (sl : Slot), s.resetLow = false → s.line.state = .idle → s.line.tx = .none →
    (s.queue.map Slot.kind).Nodup → sl ∈ s.queue →
    let ready := fun o : Slot => o.state = .queued ∧ s.allows o.payload ∧
      (∀ p ∈ s.queue, p.state = .backoff → o.payload.lineClass ≤ p.payload.lineClass) ∧
      s.line.since + (10 + 4 * o.payload.lineClass) * bitTime s.line.rateCode ≤ s.now
    ready sl →
    (∀ o ∈ s.queue, ready o → o ≠ sl →
      sl.payload.lineClass < o.payload.lineClass ∨
        sl.payload.lineClass = o.payload.lineClass ∧
          (sl.age < o.age ∨ sl.age = o.age ∧ sl.payload.standing < o.payload.standing)) →
    ∃ body, exec .slotStart s = .next { s with
        line := { s.line with
          state := .busy, since := s.now, tx := .sending ⟨s.own, s.table.epoch, s.table.tsn, body⟩ }
        queue := s.queue.map fun o =>
          if o = sl then { o with state := .onLine, attempts := min 16 (o.attempts + 1), counted := 0 }
          else { o with counted := 0 } } ∧
      body.kind = sl.kind ∧
      (∀ close, sl.payload = .beacon close → body =
        .beacon (BitVec.ofNat 16 s.gOwn) (BitVec.ofNat 16 s.dOwn) (vectorOf s.table.roster) s.digest) ∧
      (∀ v, sl.payload = .demand v → body = .demand v) ∧
      (∀ a, sl.payload = .claim a → body = .claim a) ∧
      (∀ v, sl.payload = .release v → body = .release v) ∧
      (∀ n, sl.payload = .clear n → body = .clear n) ∧
      (∀ e c, sl.payload = .recount e c → body = .recount e c) ∧
      (∀ e w d g x, sl.payload = .report e w d g x → body = .report e w d g x)

/-- BACKOFF_SLOT_EXPIRY: 64 bit times of idle line past the gap take one backoff slot off, and the last one
makes the slot QUEUED. That the expiry carries the running time to its moment is the model's choice (log 4). -/
def Obligations.BackoffSlotsCountDown : Prop :=
  ∀ (s : State) (sl : Slot), s.resetLow = false → s.line.state = .idle → s.line.tx = .none →
    (s.queue.map Slot.kind).Nodup → sl ∈ s.queue → sl.state = .backoff →
    exec (.backoffSlotExpiry sl.kind) s = .next { s with
      now := max s.now (s.line.since +
        (10 + 4 * sl.payload.lineClass + 64 * (sl.counted + 1)) * bitTime s.line.rateCode)
      queue := s.queue.map fun o =>
        if o = sl then
          if sl.backoffLeft ≤ 1 then { o with state := .queued, backoffLeft := 0, counted := 0 }
          else { o with backoffLeft := o.backoffLeft - 1, counted := o.counted + 1 }
        else o }

/-- READ_BACK_MISMATCH, LINE_STATE_JAM and JAM_DRIVE_END: a read-back difference ends the frame and drives the
line for 8 bit times; a line driven for 2 bit times is in JAM. The moments to which the last two carry the
running time (log 3, log 4), and an activity on a line still IDLE taken to begin now (log 27), are the model's
choices. -/
def Obligations.CollisionsJamTheLine : Prop :=
  ∀ s : State, s.resetLow = false →
    (∀ f, s.line.tx = .sending f → exec .readBackMismatch s = .next { s with
      line := { s.line with tx := .jamming (s.now + 8 * bitTime s.line.rateCode) } }) ∧
    (∀ till, s.line.state = .busy → s.line.tx = .jamming till ∨ till = 0 ∧ s.line.tx = .none →
      ∃ t, exec .lineStateJam s = .next t ∧ t = { s with
        now := max s.now (s.line.since + 2 * bitTime s.line.rateCode)
        line := { s.line with state := .jam, since := t.now } }) ∧
    (s.line.state = .idle → s.line.tx = .none →
      ∃ t, exec .lineStateJam s = .next t ∧ t = { s with
        now := s.now + 2 * bitTime s.line.rateCode
        line := { s.line with state := .jam, since := t.now }
        queue := s.queue.map fun sl => { sl with counted := 0 } }) ∧
    (s.line.state = .busy → s.line.tx = .jammed →
      exec .lineStateJam s = .next { s with line := { s.line with state := .jam, since := s.now } }) ∧
    (∀ till, s.line.tx = .jamming till → exec .jamDriveEnd s = .next { s with
      now := max s.now till, line := { s.line with tx := .jammed } })

/-- END_OF_JAM: IDLE with idle time 0. An own attempt that ended in the jam counts a collision; a flushed slot
and a finishing one are freed, a slot at its sixteenth attempt, RELEASE excepted, is abandoned, a RECOUNT so
abandoned is requested again with its latest cause, the second abandonment in a row isolates the station, and any
other slot is tried again after a backoff of at most 2^min(n,6) - 1 slots, n its attempts, nothing else being asked
for. The count of draws (log 6), the order
of the blocks that look again where a slot has been freed (log 10), and the value that fills a flushed slot
again (log 13) are the model's choices. -/
def Obligations.EndOfJamDecidesTheSlot : Prop :=
  ∀ (s : State) (sl : Slot), s.resetLow = false → s.line.state = .jam →
    (s.line.tx = .none →
      exec .endOfJam s = .next { s with line := { s.line with state := .idle, since := s.now } }) ∧
    (s.line.tx = .jammed → queueOk s.queue → sl ∈ s.queue → sl.state = .onLine →
      (∀ o ∈ s.queue, o.state = .onLine → o = sl) →
      let ended := { s with
        line := { s.line with state := .idle, since := s.now, tx := .none }
        events := { s.events with counters := { s.events.counters with
          collisions := min 65535 (s.events.counters.collisions + 1) } } }
      let others := s.queue.filter fun o : Slot => o.kind != sl.kind
      let abandoned := { ended.events with
        flags := s.events.flags ||| Event.abandoned.bit
        counters := { ended.events.counters with
          abandoned := min 65535 (s.events.counters.abandoned + 1) } }
      (sl.flushed = true →
        exec .endOfJam s = .next { ended with
          queue := others ++ (sl.followOn.map (Slot.fresh s.now)).toList }) ∧
      (sl.flushed = false → sl.finishing = true →
        exec .endOfJam s = .next (State.lookAgain { ended with queue := others })) ∧
      (sl.flushed = false → sl.finishing = false → sl.attempts = 16 → sl.kind ≠ .release →
        s.station.state = .listen ∨ s.station.state = .member →
        (sl.kind ≠ .recount → s.station.abandonments = 0 →
          exec .endOfJam s = .next (State.lookAgain { ended with
            queue := others
            station := { s.station with abandonments := 1 }
            events := abandoned })) ∧
        (∀ c, s.station.abandonments = 0 → (sl.followOn.getD sl.payload).cause? = some c →
          ∃ t, exec .endOfJam s = .next t ∧ t.station = { s.station with abandonments := 1 } ∧
            t.events = abandoned ∧ t.recount = { s.recount with requested := true } ∧
            t.table = s.table ∧ t.grant = s.grant ∧ t.line = ended.line ∧ noneWaits t.queue .claim ∧
            ∃ o ∈ t.queue, o.kind = .recount ∧ o.state = .queued ∧ o.attempts = 0 ∧
              ∀ h, s.recount.highest = some h → o.payload = .recount (h + 1) c) ∧
        (s.station.abandonments ≠ 0 →
          ∃ t, exec .endOfJam s = .next t ∧ s.isolatedFrom t ∧ t.now = s.now ∧
            t.events.flagSet .abandoned)) ∧
      (sl.flushed = false → sl.finishing = false → sl.attempts < 16 ∨ sl.kind = .release →
        ∃ k, k ≤ 2 ^ min sl.attempts 6 - 1 ∧
          exec .endOfJam s = .next { ended with
            line := { ended.line with draws := s.line.draws + 1 }
            queue := s.queue.map fun o =>
              if o = sl then { o with
                payload := o.followOn.getD o.payload
                followOn := none
                state := if k = 0 then .queued else .backoff
                backoffLeft := k
                counted := 0 }
              else o }))

/-- OWN_FRAME_COMPLETION: the line is IDLE from the end of frame, the slot is freed and filled again by a
follow-on value, the abandonment count is 0, a running beacon timer restarts, and the loopback is stored with
its own flag set: past 12 frames a SLOW is asked for, at 16 it is dropped. A completed SLOW starts the own slow
timer; a completed LEAVE parks a MEMBER with A and g_own at 0 and is cancelled otherwise; a flushed frame, in
whatever state it ends, is reported to no block. The time of the end of frame (log 4), the order of the blocks that
look again (log 10), and a completion that asks for no refused BEACON (log 36) are the model's choices. -/
def Obligations.OwnFramesCompleteAndLoopBack : Prop :=
  ∀ (s : State) (f : Frame) (sl : Slot), s.resetLow = false → s.line.tx = .sending f →
    (s.queue.map Slot.kind).Nodup → sl ∈ s.queue → sl.state = .onLine →
    (∀ o ∈ s.queue, o.state = .onLine → o = sl) → f.kind = sl.kind →
    let at_ : Time := max s.now (s.line.since + f.lineBits * bitTime s.line.rateCode)
    let ended := { s with
      now := at_
      line := { s.line with state := .idle, since := at_, tx := .none }
      queue := (s.queue.filter fun o : Slot => o.kind != sl.kind) ++
        (sl.followOn.map (Slot.fresh at_)).toList
      station := { s.station with
        abandonments := 0
        beaconTimer := s.station.beaconTimer.map fun _ =>
          at_ + ms (2 ^ (s.config.silenceExp.toNat - 2)) } }
    let looped := { ended with ring := { s.ring with entries := s.ring.entries ++ [⟨f, true⟩] } }
    (sl.flushed = true →
      (f.kind = .slow ∨ s.station.state = .parked →
        exec .ownFrameCompletion s = .next { ended with station := s.station }) ∧
      (f.kind ≠ .slow → s.station.state = .listen ∨ s.station.state = .member →
        (s.ring.entries.length < 12 ∨
            s.ring.entries.length < 16 ∧ (s.station.state = .listen ∨ s.ring.flow ≠ .off) →
          exec .ownFrameCompletion s = .next { looped with station := s.station }) ∧
        (12 ≤ s.ring.entries.length → s.ring.entries.length < 16 → s.station.state = .member →
          s.ring.flow = .off →
          ∃ t, exec .ownFrameCompletion s = .next t ∧ t.ring = { looped.ring with flow := .sending } ∧
            (ended.queue.length < 4 → ∃ o ∈ t.queue, o.kind = .slow) ∧ t.line = ended.line ∧
            t.station = s.station ∧ t.table = s.table ∧ t.grant = s.grant ∧
            t.recount = s.recount ∧ t.events = s.events) ∧
        (16 ≤ s.ring.entries.length →
          ∃ t, exec .ownFrameCompletion s = .next t ∧ t.ring.entries = s.ring.entries ∧
            t.ring.lost = true ∧ t.line = ended.line ∧ t.station = s.station ∧
            t.table = s.table ∧ t.grant = s.grant ∧
            t.events = { s.events with
              flags := s.events.flags ||| Event.ringOverflow.bit
              counters := { s.events.counters with
                ringOverflows := min 65535 (s.events.counters.ringOverflows + 1) } } ∧
            (s.station.state = .member → s.recount.phase ≠ .window →
              t.recount = { s.recount with requested := true }))) ∧
      (f.kind ≠ .slow → s.station.state = .barred ∨ s.station.state = .isolated ∧
          (∀ d, f.body.digest? = some d → d = s.digest) →
        (s.ring.entries.length < 16 →
          exec .ownFrameCompletion s = .next { looped with station := s.station }) ∧
        (16 ≤ s.ring.entries.length →
          ∃ t, exec .ownFrameCompletion s = .next t ∧ t.ring = { s.ring with lost := true } ∧
            t.line = ended.line ∧ t.queue = ended.queue ∧ t.station = s.station ∧ t.grant = s.grant ∧
            t.events = { s.events with
              flags := s.events.flags ||| Event.ringOverflow.bit
              counters := { s.events.counters with
                ringOverflows := min 65535 (s.events.counters.ringOverflows + 1) } }))) ∧
    (sl.flushed = false → f.kind ≠ .slow → s.station.state = .listen ∨ s.station.state = .member →
      ¬ (sl.payload.isLeave = true ∧ s.station.state = .member ∧ s.grant.applied = 0 ∧ s.gOwn = 0) →
      (s.ring.entries.length < 12 ∨
          s.ring.entries.length < 16 ∧ (s.station.state = .listen ∨ s.ring.flow ≠ .off) →
        exec .ownFrameCompletion s = .next (State.lookAgain looped)) ∧
      (12 ≤ s.ring.entries.length → s.ring.entries.length < 16 → s.station.state = .member →
        s.ring.flow = .off →
        ∃ t, exec .ownFrameCompletion s = .next t ∧ t.ring = { looped.ring with flow := .sending } ∧
          (s.queue.length ≤ 2 → ∃ o ∈ t.queue, o.kind = .slow) ∧ t.line = ended.line ∧
          t.station = ended.station ∧ t.table = s.table ∧ t.grant = s.grant ∧
          t.recount = s.recount ∧ t.events = s.events) ∧
      (16 ≤ s.ring.entries.length →
        ∃ t, exec .ownFrameCompletion s = .next t ∧ t.ring.entries = s.ring.entries ∧
          t.ring.lost = true ∧ t.line = ended.line ∧ t.station = ended.station ∧
          t.table = s.table ∧ t.grant = s.grant ∧
          t.events = { s.events with
            flags := s.events.flags ||| Event.ringOverflow.bit
            counters := { s.events.counters with
              ringOverflows := min 65535 (s.events.counters.ringOverflows + 1) } } ∧
          (s.station.state = .member → s.recount.phase ≠ .window →
            t.recount = { s.recount with requested := true }) ∧
          (s.station.state = .listen ∨ s.recount.phase = .window → f.kind = .recount →
            sl.followOn = none → t.recount = { s.recount with requested := false }))) ∧
    (sl.flushed = false → sl.payload = .slow → s.station.state = .listen ∨ s.station.state = .member →
      (s.ring.flow = .sending →
        exec .ownFrameCompletion s = .next (State.lookAgain { ended with
          ring := { s.ring with
            flow := .holding, slowTimer := some (at_ + ms (2 ^ s.config.slowExp.toNat)) } })) ∧
      (s.ring.flow ≠ .sending →
        exec .ownFrameCompletion s = .next (State.lookAgain ended))) ∧
    (sl.flushed = false → sl.payload.isLeave = true → s.station.state = .member →
      s.grant.applied = 0 → s.gOwn = 0 →
      ∃ t, exec .ownFrameCompletion s = .next t ∧
        t.station = { Station.reset with state := .parked } ∧ s.clearedFrom t ∧
        t.grant.applied = 0 ∧ t.grant.demand = s.grant.demand ∧ t.grant.cutoff = s.grant.cutoff ∧
        t.events = s.events)

/-- What the blocks ask for in `s` after a command taken in `before`, `freed` saying that a slot was freed:
when one was, or when their own items changed, a settled station's RELEASE of A below g_own, DEMAND of H other
than d_own, CLEAR of the lowest expired ghost, and CLAIM of T - g_own under the conditions of R51 and T of R50;
a DEMAND, CLEAR or CLAIM is refused only where the four slots are taken and none waits with a kind of lower
standing; otherwise nothing is asked for. When A comes to equal g_own, or H d_own, a waiting RELEASE or DEMAND is withdrawn, and an ON_LINE DEMAND stays. A flow
hold whose SLOW has left the queue without completing asks for it again with fewer than 10 places free, and ends
otherwise. Outside MEMBER nothing is queued. The condition that log 9 adds to R51, the order (log 10), E_own and the
starved set as last heard (log 23), the SLOW kept as a standing condition (log 24), the follow-on value of that
DEMAND (log 34), a CLEAR queued by the queue alone (log 35) and the bound on T while an own DEMAND's run goes on
(log 38) are the model's choices. -/
def Obligations.StandingConditionsQueueTheirFrames : Prop :=
  ∀ (s before : State) (freed : Bool),
    (s.settled → queueSound s.queue →
      (s.grant.applied < s.gOwn → freed = true ∨ s.releaseItems ≠ before.releaseItems →
        carries (s.lookAfter before freed).queue (.release (BitVec.ofNat 16 s.grant.applied))) ∧
      (before.grant.applied < before.gOwn → s.gOwn ≤ s.grant.applied →
        noneWaits (s.lookAfter before freed).queue .release) ∧
      (s.grant.demand ≠ s.dOwn → freed = true ∨ s.demandItems ≠ before.demandItems →
        let p := Payload.demand (BitVec.ofNat 16 s.grant.demand)
        carries (s.lookAfter before freed).queue p ∨ fullFor (s.lookAfter before freed).queue p) ∧
      (before.grant.demand ≠ before.dOwn → s.grant.demand = s.dOwn →
        noneWaits (s.lookAfter before freed).queue .demand ∧
        (s.grant.demand ≠ before.grant.demand → ∀ sl ∈ s.queue, sl.kind = .demand →
          sl.state = .onLine → ∃ o ∈ (s.lookAfter before freed).queue, o.kind = .demand ∧
            o.state = .onLine ∧ o.finishing = false ∧
            o.followOn = some (.demand (BitVec.ofNat 16 s.grant.demand)))) ∧
      (∀ n, (∀ sl ∈ s.queue, sl.kind ≠ .clear) → s.table.lowestExpired = some n →
        freed = true ∨ s.clearItems ≠ before.clearItems →
        (∃ sl ∈ (s.lookAfter before freed).queue, sl.payload = .clear n ∧ sl.state = .queued) ∨
          fullFor (s.lookAfter before freed).queue (.clear n)) ∧
      (s.claims → freed = true ∨ s.claimItems ≠ before.claimItems →
        let p := Payload.claim (BitVec.ofNat 16 (s.aim - s.gOwn))
        (∃ sl ∈ (s.lookAfter before freed).queue, sl.payload = p ∧ sl.state = .queued) ∨
          fullFor (s.lookAfter before freed).queue p) ∧
      (¬ s.claims → (∀ sl ∈ s.queue, sl.kind ≠ .claim) →
        ∀ sl ∈ (s.lookAfter before freed).queue, sl.kind ≠ .claim)) ∧
    (s.station.state = .member → s.ring.flow = .sending → (∀ sl ∈ s.queue, sl.kind ≠ .slow) →
      freed = true ∨ (∃ sl ∈ before.queue, sl.kind = .slow ∧ sl.flushed = false) →
      (6 < s.ring.entries.length → (s.lookAfter before freed).ring = s.ring ∧
        (s.queue.length ≤ 2 →
          ∃ sl ∈ (s.lookAfter before freed).queue, sl.payload = .slow ∧ sl.state = .queued)) ∧
      (s.ring.entries.length ≤ 6 → (s.lookAfter before freed).ring = { s.ring with flow := .off } ∧
        ∀ sl ∈ (s.lookAfter before freed).queue, sl.kind ≠ .slow)) ∧
    (s.releaseItems = before.releaseItems → s.demandItems = before.demandItems →
      s.clearItems = before.clearItems → s.claimItems = before.claimItems → ¬ s.freedSince before →
      s.lookAfter before false = s) ∧
    s.lookAfter s true = s.lookAgain ∧
    (s.station.state ≠ .member → s.lookAfter before freed = s)

/-! ### The Table Unit (01) -/

/-- TAKE_FRAME in LISTEN or MEMBER of a frame of another station under the own number, or with a differing
digest: the station enters BARRED with the clear, the event, and with A above 0 a lower request to nothing
within T_yield. In every other state the frame is taken off the ring and nothing else happens. -/
def Obligations.StrangeNumberOrDigestBars : Prop :=
  ∀ (s : State) (e : RingEntry) (rest : List RingEntry), s.takes e rest →
    (s.takesPart → ¬ s.admits e.frame e.own →
      ∃ t, exec .takeFrame s = .next t ∧ s.sameOutside t ∧ t.station = { Station.reset with state := .barred } ∧
        s.clearedFrom t ∧ t.events.flagSet .barred ∧ s.loweredToNothing t) ∧
    (¬ s.takesPart → exec .takeFrame s = .next { s with ring := { s.ring with entries := rest } })

/-- TAKE_FRAME of a CLAIM in step with the own table: the sender's grant rises by the smallest of the amount,
free, and the cap (E - g while another member is starved), never past B; TSN advances and the starved set
follows; no engine run. An own CLAIM raises A by the increment, at most to H and not while CUTOFF is asserted,
with GRANT_RAISED when A rose and CLAIM_SHORT with claim back-off when the increment is below the amount. The
YIELD need is looked at after an own CLAIM, and after another station's where E_own, the starved set or OVER
differs from what Grant Control had heard, which the model holds as the last notice (log 23). -/
def Obligations.ClaimsCommitTheirIncrement : Prop :=
  ∀ (s : State) (f : Frame) (own : Bool) (rest : List RingEntry) (m : Member) (a : Half),
    s.takes ⟨f, own⟩ rest → s.inStep f own m → f.body = .claim a →
    ∃ (inc cap : Nat) (t : State),
      ((∃ n ∈ s.table.starved, n ≠ f.sender) → cap = m.entitlement - m.grant) ∧
      ((∀ n ∈ s.table.starved, n = f.sender) → cap = a.toNat) ∧
      inc = min a.toNat (min (s.budget - s.table.sum) cap) ∧
      exec .takeFrame s = .next t ∧ s.sameOutside t ∧ t.station = s.station ∧
      t.events.counters = s.events.counters ∧ t.events.mask = s.events.mask ∧
      t.recount = { s.recount with highest := t.recount.highest } ∧
      t.table.member? f.sender = some { m.heardAt s.now with grant := m.grant + inc } ∧
      (∀ n, n ≠ f.sender → t.table.entryAt n = s.table.entryAt n) ∧
      t.table.sum = s.table.sum + inc ∧ t.table.sum ≤ max s.table.sum s.budget ∧
      t.table.tsn = s.table.tsn + 1 ∧ t.table.epoch = s.table.epoch ∧
      t.table.starved = t.table.starvedNow ∧ t.engine = s.engine ∧ t.ring.entries = rest ∧
      t.grant.demand = s.grant.demand ∧ t.grant.cutoff = s.grant.cutoff ∧
      (f.sender ≠ s.own → t.grant.applied = s.grant.applied ∧ t.grant.backoff = s.grant.backoff) ∧
      (f.sender = s.own →
        (s.grant.cutoff = false → t.grant.applied = min (s.grant.applied + inc) s.grant.demand) ∧
        (s.grant.cutoff = true → t.grant.applied = min s.grant.applied s.grant.demand) ∧
        (s.grant.applied < t.grant.applied → t.events.flagSet .grantRaised) ∧
        (inc < a.toNat → t.events.flagSet .claimShort ∧ t.grant.backoff = true) ∧
        (inc = a.toNat → t.grant.backoff = s.grant.backoff)) ∧
      (f.sender = s.own ∨ t.grant.seen ≠ s.grant.seen → s.yieldJudged t) ∧
      (f.sender ≠ s.own → t.grant.seen = s.grant.seen →
        t.grant.lower = s.grant.lower ∧ t.events = s.events) ∧
      t.grant.seen = ⟨t.eOwn, t.table.starved, t.isOver⟩

/-- TAKE_FRAME of a DEMAND, RELEASE, CLEAR or BEACON in step with the own table. A DEMAND sets d and lowers g to
it and starts a run over the new demands, and until that has completed Grant Control has no notice and claims no
higher than by the demand before it (log 38); a RELEASE lowers g, clears claim back-off, and has the YIELD need
looked at, by what is held as the last notice (log 23); a CLEAR of a ghost
removes it, withdraws an own waiting CLEAR of it and starts a run, and any other CLEAR changes no entry; TSN
advances with each. A BEACON in phase
NONE whose grant or demand differs from the entry is a MISMATCH; in CHECK an equal roster confirms the sender,
and the last confirmation settles, members older than T_silence being marked silent with a SILENCE cause that the
new guard holds, while another roster asks for a recount. That such members are marked together and acted on once
(log 25), and the grid of their ages (log 22), are the model's choices. -/
def Obligations.TableFramesAreApplied : Prop :=
  (∀ (s : State) (f : Frame) (own : Bool) (rest : List RingEntry) (m : Member) (v : Half)
    (n : StationNo),
    s.takes ⟨f, own⟩ rest → s.inStep f own m → f.body = .demand v ∨ f.body = .release v ∨ f.body = .clear n →
    ∃ t, exec .takeFrame s = .next t ∧ s.sameOutside t ∧ t.events.counters = s.events.counters ∧
      t.recount = { s.recount with highest := t.recount.highest } ∧ t.table.tsn = s.table.tsn + 1 ∧ t.table.epoch = s.table.epoch ∧
      t.ring.entries = rest ∧ t.grant.applied = s.grant.applied ∧ t.grant.demand = s.grant.demand ∧
      t.grant.cutoff = s.grant.cutoff ∧ t.station = s.station ∧
      (f.sender ≠ s.own → t.table.suspect = false) ∧ (f.sender = s.own → t.table.suspect = s.table.suspect) ∧
      (f.body = .demand v →
        t.table.member? f.sender = some { m.heardAt s.now with
          demand := v.toNat, grant := min m.grant v.toNat } ∧
        (∀ k, k ≠ f.sender → t.table.entryAt k = s.table.entryAt k)) ∧
      (f.body = .release v →
        t.table.member? f.sender = some { m.heardAt s.now with grant := min m.grant v.toNat } ∧
        (∀ k, k ≠ f.sender → t.table.entryAt k = s.table.entryAt k) ∧
        t.engine = s.engine ∧ t.grant.backoff = false ∧ t.table.starved = t.table.starvedNow ∧
        t.grant.seen = ⟨t.eOwn, t.table.starved, t.isOver⟩ ∧ s.yieldJudged t) ∧
      (f.body = .clear n →
        t.table.member? f.sender = some (m.heardAt s.now) ∧
        (∀ k, k ≠ f.sender → k ≠ n → t.table.entryAt k = s.table.entryAt k) ∧
        (s.table.isGhost n = true → t.table.entryAt n = .absent ∧
          (∀ sl ∈ t.queue, sl.payload = .clear n → sl.state = .onLine) ∧
          ∀ sl ∈ s.queue, sl.payload = .clear n → sl.state = .onLine → sl ∈ t.queue) ∧
        (s.table.isGhost n = false → n ≠ f.sender → t.table.entryAt n = s.table.entryAt n) ∧
        (s.table.isGhost n = false → t.engine = s.engine)) ∧
      (f.body = .demand v ∨ f.body = .clear n ∧ s.table.isGhost n = true →
        t.grant = s.grant ∧ t.events = s.events ∧
        (∀ sl ∈ t.queue, ∀ a, sl.payload = .claim a →
          sl ∈ s.queue ∨ a.toNat + t.gOwn ≤ s.grant.sharedDemand) ∧
        t.table.entValid = false ∧ ∃ r, t.engine.run = some r ∧ r.started = s.now ∧
          r.rotor = s.table.epoch.toNat % 32 ∧ r.remaining = s.budget - t.table.reservations ∧
          r.share = t.table.sharers.filter (fun i => i.demand != 0))) ∧
  ∀ (s : State) (f : Frame) (own : Bool) (rest : List RingEntry) (m : Member) (g d : Half)
    (roster : BitVec 32) (digest : Half),
    s.takes ⟨f, own⟩ rest → s.inStep f own m → f.body = .beacon g d roster digest → queueOk s.queue →
    s.confirmInv →
    ∃ t, exec .takeFrame s = .next t ∧ s.sameOutside t ∧ t.ring.entries = rest ∧
      t.table.tsn = s.table.tsn ∧ t.table.epoch = s.table.epoch ∧ t.engine = s.engine ∧
      t.grant = s.grant ∧ t.table.sum = s.table.sum ∧
      (f.sender ≠ s.own → t.table.suspect = false) ∧ (f.sender = s.own → t.table.suspect = s.table.suspect) ∧
      (s.recount.phase = .none →
        t.table.member? f.sender = some (m.heardAt s.now) ∧
        (∀ k, k ≠ f.sender → t.table.entryAt k = s.table.entryAt k) ∧ t.station = s.station ∧
        t.recount.phase = .none ∧
        (g.toNat = m.grant → d.toNat = m.demand → t.events = s.events ∧
          t.table.diverged = s.table.diverged ∧
          t.recount = { s.recount with highest := t.recount.highest }) ∧
        (g.toNat ≠ m.grant ∨ d.toNat ≠ m.demand → s.mismatchFound t)) ∧
      (s.recount.phase = .check → roster ≠ vectorOf s.table.roster →
        s.asksFor t .roster ∧ t.recount.phase = .check ∧ t.events = s.events ∧ t.station = s.station ∧
        t.table.member? f.sender = some (m.heardAt s.now) ∧
        ∀ k, k ≠ f.sender → t.table.entryAt k = s.table.entryAt k) ∧
      (s.recount.phase = .check → roster = vectorOf s.table.roster →
        ((∃ k mk, k ≠ s.own ∧ k ≠ f.sender ∧ s.table.member? k = some mk ∧ mk.confirmed = false) →
          t.recount = { s.recount with highest := t.recount.highest } ∧ t.events = s.events ∧
          t.station = s.station ∧
          t.table.member? f.sender = some { m.heardAt s.now with confirmed := true } ∧
          ∀ k, k ≠ f.sender → t.table.entryAt k = s.table.entryAt k) ∧
        ((∀ k mk, k ≠ s.own → k ≠ f.sender → s.table.member? k = some mk →
            mk.confirmed = true ∧ msBetween mk.since s.now ≤ 2 ^ s.config.silenceExp.toNat) →
          s.settlesAt t ∧ t.recount = { s.recount with
            phase := .none, count := 0, checkTimer := none, guardTimer := t.recount.guardTimer
            highest := t.recount.highest } ∧
          t.station = { s.station with beaconTimer := t.station.beaconTimer } ∧
          t.events = { s.events with flags := s.events.flags ||| Event.recountSettled.bit } ∧
          t.table.member? f.sender = some { m.heardAt s.now with confirmed := true } ∧
          (∀ k, k ≠ f.sender → t.table.entryAt k = s.table.entryAt k) ∧ noCloseBeacon t.queue ∧
          (∀ sl ∈ s.queue, sl.payload = .beacon true → sl.state ≠ .onLine → s.queue.length ≤ 1 →
            ∃ o ∈ t.queue, o.payload = .beacon false ∧ o.state = .queued ∧ o.attempts = 0)) ∧
        let old := fun mk : Member =>
          2 ^ s.config.silenceExp.toNat < min 65535 (msBetween mk.since s.now)
        ((∀ k mk, k ≠ s.own → k ≠ f.sender → s.table.member? k = some mk → mk.confirmed = true) →
          (∃ k mk, k ≠ s.own ∧ k ≠ f.sender ∧ s.table.member? k = some mk ∧ old mk) →
          s.settlesAt t ∧ t.recount = { s.recount with
            phase := .none, count := 0, checkTimer := none, guardTimer := t.recount.guardTimer
            highest := t.recount.highest, causes := { s.recount.causes with silence := true } } ∧
          t.station = { s.station with beaconTimer := t.station.beaconTimer } ∧
          t.events = { s.events with flags := s.events.flags ||| Event.recountSettled.bit } ∧
          (s.recount.causes.silence = false → noneWaits t.queue .claim) ∧ noCloseBeacon t.queue ∧
          t.table.member? f.sender = some { m.heardAt s.now with confirmed := true } ∧
          t.table.entryAt s.own = s.table.entryAt s.own ∧
          (∀ k mk, k ≠ s.own → k ≠ f.sender → s.table.member? k = some mk →
            (old mk → t.table.member? k = some { mk with silent := true }) ∧
            (¬ old mk → t.table.member? k = some mk)) ∧
          ∀ k, s.table.member? k = none → t.table.entryAt k = s.table.entryAt k))

/-- TAKE_FRAME of what is not applied. A table frame or BEACON of a roster member out of step: with the own
epoch and another TSN a MISMATCH, with an earlier epoch stale, with a later one BEHIND. A REPORT in NONE or
CHECK by its target: BEHIND, stale, or ROSTER for the own epoch from outside the roster. From outside the
roster a BEACON gives BEHIND, ROSTER or MERGE, and a table frame is stale. In LISTEN with no window open a
frame of another station is heard and nothing else follows. No entry changes but for the sender's age and silent
flag. -/
def Obligations.OutOfStepFramesAreNotApplied : Prop :=
  ∀ (s : State) (f : Frame) (own : Bool) (rest : List RingEntry),
    s.takes ⟨f, own⟩ rest → s.admits f own →
    (∀ m, s.working → s.table.member? f.sender = some m →
      f.kind = .beacon ∨ f.kind = .demand ∨ f.kind = .claim ∨ f.kind = .release ∨ f.kind = .clear →
      ¬ (f.epoch = s.table.epoch ∧ f.tsn = s.table.tsn) →
      ∃ t, exec .takeFrame s = .next t ∧ s.notApplied t f.sender rest ∧ t.station = s.station ∧
        t.recount.phase = s.recount.phase ∧ t.recount.count = s.recount.count ∧
        t.table.member? f.sender = some (m.heardAt s.now) ∧
        (f.epoch = s.table.epoch → s.mismatchFound t) ∧
        (f.epoch ≠ s.table.epoch → t.table.diverged = s.table.diverged) ∧
        (1 ≤ (f.epoch - s.table.epoch).toNat → (f.epoch - s.table.epoch).toNat ≤ 32768 →
          s.asksFor t .behind ∧ t.events = s.events) ∧
        (1 ≤ (s.table.epoch - f.epoch).toNat → (s.table.epoch - f.epoch).toNat ≤ 32767 →
          s.staleCounted t)) ∧
    (∀ target w d g x, s.working → f.body = .report target w d g x →
      ∃ t, exec .takeFrame s = .next t ∧ s.notApplied t f.sender rest ∧ t.station = s.station ∧
        t.recount.phase = s.recount.phase ∧ t.table.diverged = s.table.diverged ∧
        (1 ≤ (target - s.table.epoch).toNat → (target - s.table.epoch).toNat ≤ 32768 →
          s.asksFor t .behind ∧ t.events = s.events) ∧
        (target = s.table.epoch → s.table.member? f.sender = none →
          s.asksFor t .roster ∧ t.events = s.events) ∧
        (target = s.table.epoch → s.table.member? f.sender ≠ none → s.staleCounted t) ∧
        (1 ≤ (s.table.epoch - target).toNat → (s.table.epoch - target).toNat ≤ 32767 →
          s.staleCounted t)) ∧
    (s.working → s.table.member? f.sender = none → f.kind = .beacon →
      ∃ t, exec .takeFrame s = .next t ∧ s.notApplied t f.sender rest ∧ t.station = s.station ∧
        t.recount.phase = s.recount.phase ∧ t.table.diverged = s.table.diverged ∧
        t.events = s.events ∧ (f.sender ≠ s.own → t.recount.lastNonMember = some s.now) ∧
        (1 ≤ (f.epoch - s.table.epoch).toNat → (f.epoch - s.table.epoch).toNat ≤ 32768 →
          s.asksFor t .behind) ∧
        (f.epoch = s.table.epoch → s.recount.phase = .check → s.asksFor t .roster) ∧
        (f.epoch = s.table.epoch ∧ s.recount.phase = .none ∨
            1 ≤ (s.table.epoch - f.epoch).toNat ∧ (s.table.epoch - f.epoch).toNat ≤ 32767 →
          (s.recount.phase = .none → s.recount.guardTimer ≠ none →
            t.recount.causes.merge = true ∧ t.recount.requested = s.recount.requested ∧
            (s.recount.causes.merge = false → noneWaits t.queue .claim) ∧
            (s.recount.causes.merge = true → t.queue = s.queue)) ∧
          (s.recount.phase = .check ∨ s.recount.guardTimer = none → s.asksFor t .merge))) ∧
    (s.working → s.table.member? f.sender = none →
      f.kind = .demand ∨ f.kind = .claim ∨ f.kind = .release ∨ f.kind = .clear →
      ∃ t, exec .takeFrame s = .next t ∧ s.notApplied t f.sender rest ∧ t.station = s.station ∧
        t.recount.phase = s.recount.phase ∧ t.table.diverged = s.table.diverged ∧ s.staleCounted t) ∧
    (s.station.state = .listen → s.recount.phase = .none → f.kind ≠ .recount →
      ∃ t, exec .takeFrame s = .next t ∧ s.notApplied t f.sender rest ∧
        t.table.diverged = s.table.diverged ∧ t.events = s.events ∧ t.queue = s.queue ∧
        t.recount = { s.recount with
          highest := t.recount.highest, lastNonMember := t.recount.lastNonMember } ∧
        (f.sender ≠ s.own → t.station = { s.station with heard := true }) ∧
        (f.sender = s.own → t.station = s.station))

/-! ### Recount (04) -/

/-- TAKE_FRAME of a RECOUNT. It opens a window, or restarts one for a later target, below four windows in a
row: phase WINDOW with its target, the timers, an empty report list and the own report values; a REPORT of them
waits, no table frame, BEACON or RECOUNT waits any longer, and RECOUNT_STARTED is raised and counted. At the
fifth the station enters ISOLATED instead. For the window's own target it is absorbed; for an earlier one,
and in NONE or CHECK for the own epoch or an earlier one, it is stale. Requested follows R73, and is cleared at
a window entry with an ON_LINE RECOUNT too, as the model deduces (log 12). -/
def Obligations.RecountsOpenWindows : Prop :=
  ∀ (s : State) (f : Frame) (own : Bool) (rest : List RingEntry) (target : Half) (c : Cause),
    s.takes ⟨f, own⟩ rest → s.takesPart → s.admits f own → f.body = .recount target c →
    queueOk s.queue → (s.queue.filter fun sl => sl.state == .onLine).length ≤ 1 →
    let opens := s.recount.phase ≠ .window ∧ (s.station.state = .listen ∨
        (1 ≤ (target - s.table.epoch).toNat ∧ (target - s.table.epoch).toNat ≤ 32768)) ∨
      s.recount.phase = .window ∧ ∃ w, s.recount.target = some w ∧
        1 ≤ (target - w).toNat ∧ (target - w).toNat ≤ 32768
    let isStale := s.recount.phase ≠ .window ∧ s.station.state = .member ∧
        (s.table.epoch - target).toNat ≤ 32767 ∨
      s.recount.phase = .window ∧ ∃ w, s.recount.target = some w ∧
        1 ≤ (w - target).toNat ∧ (w - target).toNat ≤ 32767
    (opens → s.recount.count < 4 → ∃ t, exec .takeFrame s = .next t ∧ s.sameOutside t ∧
      t.recount.phase = .window ∧ t.recount.target = some target ∧
      t.recount.count = s.recount.count + 1 ∧ t.recount.reports = [] ∧ t.recount.ownSent = false ∧
      t.recount.windowTimer = some (s.now + ms (2 ^ s.config.windowExp.toNat)) ∧
      t.recount.checkTimer = none ∧ t.recount.guardTimer = none ∧
      t.recount.causes = ⟨false, false, false⟩ ∧ t.recount.closeWaiting = false ∧
      t.recount.requested = (s.recount.requested && !own && (slotOf .recount s.queue).isNone) ∧
      t.recount.ownReport = some ⟨s.weight, s.grant.demand, s.grant.applied⟩ ∧
      t.station.beaconTimer = none ∧ t.station.listenTimer = none ∧ t.station.state = s.station.state ∧
      (∃ sl ∈ t.queue, sl.followOn.getD sl.payload = .report target (BitVec.ofNat 4 s.weight)
        (BitVec.ofNat 16 s.grant.demand) (BitVec.ofNat 16 s.grant.applied) s.digest) ∧
      (∀ sl ∈ t.queue, sl.state ≠ .onLine → sl.kind = .report ∨ sl.kind = .slow) ∧
      t.events = { s.events with
        flags := s.events.flags ||| Event.recountStarted.bit
        counters := { s.events.counters with
          recounts := min 65535 (s.events.counters.recounts + 1) } } ∧
      t.grant = s.grant ∧ t.table.epoch = s.table.epoch ∧ t.table.tsn = s.table.tsn ∧
      t.engine = s.engine) ∧
    (opens → 4 ≤ s.recount.count → ∃ t, exec .takeFrame s = .next t ∧ s.sameOutside t ∧
      s.isolatedFrom t ∧ t.events.counters = s.events.counters) ∧
    (s.recount.phase = .window → s.recount.target = some target →
      ∃ t, exec .takeFrame s = .next t ∧ s.notApplied t f.sender rest ∧ t.events = s.events ∧
        t.station = s.station ∧ noneWaits t.queue .recount ∧
        t.recount = { s.recount with
          requested := t.recount.requested, highest := t.recount.highest
          lastNonMember := t.recount.lastNonMember } ∧
        t.recount.requested = (s.recount.requested && decide (noneWaits s.queue .recount) &&
          (!own || s.queue.any fun sl => sl.kind == .recount && sl.followOn.isSome))) ∧
    (isStale → ∃ t, exec .takeFrame s = .next t ∧ s.notApplied t f.sender rest ∧
        t.station = s.station ∧
        t.recount = { s.recount with
          requested := t.recount.requested, highest := t.recount.highest
          lastNonMember := t.recount.lastNonMember } ∧
        t.recount.requested = (s.recount.requested && (!own || decide (s.waits .recount))) ∧
        t.events = { s.events with counters := { s.events.counters with
          staleFrames := min 65535 (s.events.counters.staleFrames + 1) } })

/-- TAKE_FRAME of a REPORT in WINDOW for the window's target: another station's is recorded, in place of an
earlier one of the same station; the own one sets own-report-sent. For an earlier target it is stale and
counted, as the own one is for a later target, and so is every table frame and BEACON taken in WINDOW. Another
station's for a later target has no further effect. -/
def Obligations.WindowReportsAreRecorded : Prop :=
  ∀ (s : State) (f : Frame) (own : Bool) (rest : List RingEntry) (w : Half),
    s.takes ⟨f, own⟩ rest → s.takesPart → s.admits f own → s.recount.phase = .window →
    s.recount.target = some w →
    (∀ target weight d g x, f.body = .report target weight d g x →
      ∃ t, exec .takeFrame s = .next t ∧ s.sameOutside t ∧ t.ring.entries = rest ∧ t.grant = s.grant ∧
        t.recount.phase = .window ∧ t.recount.target = some w ∧
        t.station = s.station ∧ t.engine = s.engine ∧ t.table.sum = s.table.sum ∧ t.table.tsn = s.table.tsn ∧
        (target = w → f.sender ≠ s.own →
          ⟨f.sender, weight.toNat, d.toNat, g.toNat⟩ ∈ t.recount.reports ∧
          (∀ r ∈ t.recount.reports, r.station = f.sender →
            r = ⟨f.sender, weight.toNat, d.toNat, g.toNat⟩) ∧
          (∀ r : ReportRecord, r.station ≠ f.sender →
            (r ∈ t.recount.reports ↔ r ∈ s.recount.reports)) ∧
          t.recount.ownSent = s.recount.ownSent) ∧
        (target = w → f.sender = s.own →
          t.recount.ownSent = true ∧ t.recount.reports = s.recount.reports) ∧
        (1 ≤ (w - target).toNat → (w - target).toNat ≤ 32767 →
          t.recount.reports = s.recount.reports ∧ t.recount.ownSent = s.recount.ownSent ∧
          t.events.counters.staleFrames = min 65535 (s.events.counters.staleFrames + 1)) ∧
        (1 ≤ (target - w).toNat → (target - w).toNat ≤ 32768 →
          t.recount.reports = s.recount.reports ∧ t.recount.ownSent = s.recount.ownSent ∧
          (f.sender ≠ s.own → t.events = s.events) ∧
          (f.sender = s.own →
            t.events.counters.staleFrames = min 65535 (s.events.counters.staleFrames + 1)))) ∧
    (f.kind = .beacon ∨ f.kind = .demand ∨ f.kind = .claim ∨ f.kind = .release ∨ f.kind = .clear →
      ∃ t, exec .takeFrame s = .next t ∧ s.sameOutside t ∧ t.ring.entries = rest ∧ t.table.sum = s.table.sum ∧
        t.table.tsn = s.table.tsn ∧ t.grant = s.grant ∧ t.recount.reports = s.recount.reports ∧
        t.events = { s.events with counters := { s.events.counters with
          staleFrames := min 65535 (s.events.counters.staleFrames + 1) } })

/-- WINDOW_TIMER_EXPIRY and CLOSE_BEGIN: at the window's end a close waits; when it begins, with the own
report sent, every station that reported and the own one become members with the reported values, a former
member that still held a grant becomes a ghost for T_ghost, and epoch, TSN and flags are set anew with a run
started; without the own report sent the station is isolated. That the timer's expiry carries the running time to
its moment is the model's choice (log 4). -/
def Obligations.ClosesRebuildTheTable : Prop :=
  ∀ s : State, s.resetLow = false →
    (∀ t, s.recount.windowTimer = some t → exec .windowTimerExpiry s = .next { s with
      now := max s.now t
      recount := { s.recount with windowTimer := none, closeWaiting := true } }) ∧
    (s.recount.closeWaiting = true → s.engine.run = none → s.table.snapPending = false →
      (s.recount.ownSent = true → ∀ o w, s.recount.ownReport = some o → s.recount.target = some w →
        (s.recount.reports.map ReportRecord.station).Nodup →
        ∃ t, exec .closeBegin s = .next t ∧ s.sameOutside t ∧
          t.table.entryAt s.own =
            .member ⟨o.weight, o.demand, o.grant, 0, s.now, false, false⟩ ∧
          (∀ r ∈ s.recount.reports, r.station ≠ s.own → t.table.entryAt r.station =
            .member ⟨r.weight, r.demand, r.grant, 0, s.now, false, false⟩) ∧
          (∀ n, n ≠ s.own → (∀ r ∈ s.recount.reports, r.station ≠ n) →
            (∀ m, s.table.entryAt n = .member m → 0 < m.grant → t.table.entryAt n = .ghost
              ⟨m.grant, some (s.now + ms (2 ^ (s.config.silenceExp.toNat + 1) +
                2 ^ s.config.yieldExp.toNat))⟩) ∧
            (∀ m, s.table.entryAt n = .member m → m.grant = 0 → t.table.entryAt n = .absent) ∧
            (∀ g, s.table.entryAt n = .ghost g → t.table.entryAt n = .ghost g) ∧
            (s.table.entryAt n = .absent → t.table.entryAt n = .absent)) ∧
          t.table.epoch = w ∧ t.table.tsn = 0 ∧ t.table.suspect = false ∧ t.table.diverged = false ∧
          t.table.entValid = false ∧ t.ring = { s.ring with lost := false } ∧
          t.recount.closeWaiting = false ∧ t.recount.windowTimer = none ∧
          t.recount.phase = s.recount.phase ∧ t.grant = s.grant ∧ t.events = s.events ∧
          t.station = s.station ∧ t.queue = s.queue ∧
          ∃ r, t.engine.run = some r ∧ r.work = .close ∧ r.started = s.now ∧
            r.rotor = w.toNat % 32 ∧ r.remaining = s.budget - t.table.reservations ∧
            r.share = t.table.sharers.filter (fun i => i.demand != 0)) ∧
      (s.recount.ownSent = false → s.takesPart → ∃ t, exec .closeBegin s = .next t ∧
        s.sameOutside t ∧ s.isolatedFrom t))

/-- ENGINE_RUN_COMPLETE of a run in progress, at whatever moment, over members of weight 1 or more, all unconfirmed
if a close started it: the entitlements are those of R34 to R37, by weight and rotor; none exceeds its demand, and
they sum to the smaller of the shareable budget and the sum of the demands, nothing else of an entry changing. In
phase NONE or CHECK the YIELD need is then looked at by them; entitlement-valid is set, the engine is IDLE, the run has taken from
3 to 624 microseconds and at most 32 passes, and claim back-off is clear. The end of a close makes a LISTEN
station MEMBER with its abandonment count kept, sets phase CHECK and its timer, acts on LOST and asks for a close
BEACON, or settles at once with no other member; the end of a lone formation makes a settled MEMBER and asks for a
BEACON. The model's choices in it: the time carried to the run's moment (log 4), LOST giving no cause at the end of
a lone formation (log 18), what Grant Control has been told held as the last notice (log 23), and the reports kept
after a close (log 26). -/
def Obligations.RunsShareTheBudgetByWeight : Prop :=
  ∀ (s : State) (r : Run), s.resetLow = false → s.engine.run = some r → s.runReads r →
    s.table.entries.length = 32 → (∀ n m, s.table.member? n = some m → 1 ≤ m.weight) →
    (r.work = .close → ∀ n m, s.table.member? n = some m → m.confirmed = false) →
    ∃ t, exec .engineRunComplete s = .next t ∧ s.sameBeside t ∧
      t.table.entValid = true ∧ t.engine.run = none ∧ t.engine.lastPasses ≤ 32 ∧
      (∃ k, 6 ≤ k ∧ k ≤ 1248 ∧ t.now = max s.now (r.started + k)) ∧
      (∀ n m, t.table.member? n = some m → m.entitlement ≤ m.demand) ∧
      t.table.totalEntitlement = min (s.budget - s.table.reservations) t.table.totalDemand ∧
      t.grant.applied = s.grant.applied ∧ t.grant.demand = s.grant.demand ∧
      t.grant.cutoff = s.grant.cutoff ∧ t.grant.backoff = false ∧
      t.ring.entries = s.ring.entries ∧ t.table.sum = s.table.sum ∧
      t.table.totalDemand = s.table.totalDemand ∧ t.table.starved = t.table.starvedNow ∧
      (∀ n, t.table.entryAt n = match s.table.entryAt n with
        | .member m => .member { m with entitlement := ((t.table.member? n).map Member.entitlement).getD 0 }
        | e => e) ∧
      t.table.sharedOut (s.budget - s.table.reservations) (s.table.epoch.toNat % 32) ∧
      (t.working → s.yieldJudged t) ∧ (¬ t.working → t.grant.lower = s.grant.lower) ∧
      t.grant.sharedDemand = t.dOwn ∧
      t.events.counters = s.events.counters ∧ t.grant.seen = ⟨t.eOwn, t.table.starved, t.isOver⟩ ∧
      (r.work = .demand ∨ r.work = .clear → t.station = s.station ∧ t.recount = s.recount) ∧
      (r.work = .close → s.takesPart →
        (s.ring.lost = true → s.asksFor t .lost) ∧
        (s.ring.lost = false → t.recount.requested = s.recount.requested) ∧
        ((∃ k m, k ≠ s.own ∧ s.table.member? k = some m ∧ m.confirmed = false) →
          t.station = (if s.station.state = .listen then
            { Station.reset with state := .member, abandonments := s.station.abandonments }
            else s.station) ∧
          t.recount = { s.recount with
            phase := .check, target := none, checkTimer := t.recount.checkTimer
            requested := t.recount.requested } ∧
          t.recount.checkTimer = some (t.now + ms (2 ^ s.config.windowExp.toNat)) ∧
          (queueOk s.queue → s.queue.length ≤ 1 → carries t.queue (.beacon true))) ∧
        ((∀ k, k ≠ s.own → s.table.member? k = none) →
          s.settlesAt t ∧ t.events.flagSet .recountSettled ∧ t.recount.target = none ∧
          (queueOk s.queue → noCloseBeacon t.queue) ∧
          t.station = { (if s.station.state = .listen then
              { Station.reset with state := .member, abandonments := s.station.abandonments }
              else s.station) with beaconTimer := t.station.beaconTimer } ∧
          (s.queue = [] → s.ring.lost = false → (∀ k, s.table.isGhost k = false) →
            carries t.queue (.beacon false)))) ∧
      (r.work = .loneFormation → s.takesPart →
        s.settlesAt t ∧ t.events.flagSet .recountSettled ∧
        t.recount.requested = s.recount.requested ∧
        t.station = { Station.reset with
          state := .member, abandonments := s.station.abandonments
          beaconTimer := t.station.beaconTimer } ∧
        (s.queue = [] → (∀ k, s.table.isGhost k = false) → carries t.queue (.beacon false)))

/-- CHECK_TIMER_EXPIRY in CHECK requests a recount with cause SILENCE. GUARD_TIMER_EXPIRY ends the guard,
empties the pending causes, and requests one recount with the lowest pending cause that still stands: MISMATCH
always, MERGE with a frame from outside the roster taken within T_silence, SILENCE with another member silent;
none standing, it requests none. That an expiry carries the running time to its moment is the model's choice
(log 4). -/
def Obligations.CheckAndGuardTimersRequestRecounts : Prop :=
  ∀ (s : State) (t : Time), s.resetLow = false →
    (s.recount.checkTimer = some t → s.station.state = .member → s.recount.phase = .check →
      ∃ u, exec .checkTimerExpiry s = .next u ∧ s.sameBeside u ∧ u.engine = s.engine ∧
        u.ring.entries = s.ring.entries ∧ u.now = max s.now t ∧ u.recount.checkTimer = none ∧
        s.asksFor u .silence ∧ u.recount.phase = .check ∧ u.table = s.table ∧ u.grant = s.grant ∧
        u.station = s.station ∧ u.events = s.events) ∧
    (s.recount.guardTimer = some t →
      let mismatch := s.recount.causes.mismatch = true
      let merge := s.recount.causes.merge = true ∧ ∃ x, s.recount.lastNonMember = some x ∧
        max s.now t - x ≤ ms (2 ^ s.config.silenceExp.toNat)
      let silence := s.recount.causes.silence = true ∧
        ∃ n m, n ≠ s.own ∧ s.table.member? n = some m ∧ m.silent = true
      ∃ u, exec .guardTimerExpiry s = .next u ∧ s.sameBeside u ∧ u.engine = s.engine ∧
        u.ring.entries = s.ring.entries ∧ u.now = max s.now t ∧
        u.recount = { s.recount with
          guardTimer := none, causes := ⟨false, false, false⟩, requested := u.recount.requested } ∧
        u.table = s.table ∧ u.grant = s.grant ∧ u.station = s.station ∧ u.events = s.events ∧
        (mismatch → s.asksFor u .mismatch) ∧ (¬ mismatch → merge → s.asksFor u .merge) ∧
        (¬ mismatch → ¬ merge → silence → s.asksFor u .silence) ∧
        (¬ mismatch → ¬ merge → ¬ silence → u.recount.requested = s.recount.requested))

/-! ### Station states and supervision (05) -/

/-- LISTEN_TIMER_EXPIRY asks for the end of listening. END_OF_LISTENING: a station that heard another one
requests a recount with cause JOIN; one that heard none forms a group alone, epoch 1, with its weight and H
and a grant of 0, and starts a run. The own epoch for a highest epoch heard that is absent (log 19), and that
an expiry carries the running time to its moment (log 4), are the model's choices. -/
def Obligations.ListeningEndsInJoinOrAlone : Prop :=
  ∀ s : State, s.resetLow = false →
    (∀ t, s.station.listenTimer = some t → exec .listenTimerExpiry s = .next { s with
      now := max s.now t
      station := { s.station with listenTimer := none, listenWaiting := true } }) ∧
    (s.station.listenWaiting = true → s.engine.run = none → s.table.snapPending = false →
      (s.station.heard = true → s.station.state = .listen → s.recount.phase = .none →
        ∃ t, exec .endOfListening s = .next t ∧ s.sameOutside t ∧ t.engine = s.engine ∧
          t.ring = s.ring ∧ t.recount.requested = true ∧ s.asksFor t .join ∧
          t.station = { s.station with listenWaiting := false } ∧
          (s.queue = [] → ∃ sl ∈ t.queue, sl.payload =
            .recount (s.recount.highest.getD s.table.epoch + 1) .join ∧ sl.state = .queued) ∧
          t.table = s.table ∧ t.grant = s.grant ∧ t.events = s.events) ∧
      (s.station.heard = false →
        ∃ t, exec .endOfListening s = .next t ∧ s.sameOutside t ∧
          t.table.entryAt s.own =
            .member ⟨s.weight, s.grant.demand, 0, 0, s.now, false, false⟩ ∧
          (∀ n, n ≠ s.own → t.table.entryAt n = .absent) ∧ t.table.epoch = 1 ∧ t.table.tsn = 0 ∧
          t.table.suspect = false ∧ t.table.diverged = false ∧ t.table.entValid = false ∧
          t.ring = { s.ring with lost := false } ∧
          t.station = { s.station with listenWaiting := false } ∧ t.grant = s.grant ∧
          t.queue = s.queue ∧ t.events = s.events ∧
          ∃ r, t.engine.run = some r ∧ r.work = .loneFormation ∧ r.started = s.now ∧
            r.remaining = s.budget ∧ r.share = t.table.sharers.filter (fun i => i.demand != 0)))

/-- BEACON_TIMER_EXPIRY restarts the timer and queues an ordinary BEACON where the queue holds none and has a
free slot. MEMBER_SILENT marks the member. The line is lost when every other member is silent, or when none
was heard, nor a station outside the roster, within T_silence/2: the station is isolated. Otherwise a SILENCE
cause is given, which the guard holds, a CLAIM being withdrawn when it becomes pending. That an expiry carries the
running time to its moment (log 4), the grid of the ages (log 22), and a refused BEACON waiting for the next
expiry (log 36) are the model's choices. -/
def Obligations.SilenceAndBeaconTimers : Prop :=
  ∀ s : State, s.resetLow = false →
    (∀ t, s.station.beaconTimer = some t →
      ∃ u, exec .beaconTimerExpiry s = .next u ∧ s.sameBeside u ∧ u.engine = s.engine ∧ u.now = max s.now t ∧
        u.station = { s.station with
          beaconTimer := some (max s.now t + ms (2 ^ (s.config.silenceExp.toNat - 2))) } ∧
        ((∀ sl ∈ s.queue, sl.kind ≠ .beacon) → s.queue.length < 4 →
          u.queue = s.queue ++ [Slot.fresh u.now (.beacon false)]) ∧
        ((∃ sl ∈ s.queue, sl.kind = .beacon) ∨ 4 ≤ s.queue.length → u.queue = s.queue) ∧
        u.table = s.table ∧ u.grant = s.grant ∧
        u.recount = s.recount ∧ u.ring = s.ring ∧ u.events = s.events) ∧
    (∀ n m, s.table.member? n = some m → s.settled → n ≠ s.own → m.silent = false →
      s.table.entries.length = 32 →
      let at_ : Time := max s.now (m.since + ms (2 ^ s.config.silenceExp.toNat + 1))
      let half := 2 ^ s.config.silenceExp.toNat / 2
      let allSilent := ∀ k mk, k ≠ s.own → k ≠ n → s.table.member? k = some mk → mk.silent = true
      let heard := (∃ k mk, k ≠ s.own ∧ k ≠ n ∧ s.table.member? k = some mk ∧
          msBetween mk.since at_ ≤ half) ∨
        ∃ x, s.recount.lastNonMember = some x ∧ at_ - x ≤ ms half
      (allSilent ∨ ¬ heard ∧ half ≤ 32767 →
        ∃ u, exec (.memberSilent n) s = .next u ∧ s.sameBeside u ∧ s.isolatedFrom u ∧ u.now = at_) ∧
      (¬ allSilent → heard →
        ∃ u, exec (.memberSilent n) s = .next u ∧ s.sameBeside u ∧ u.station = s.station ∧
          u.now = at_ ∧ u.table.member? n = some { m with silent := true } ∧
          (∀ j, j ≠ n → u.table.entryAt j = s.table.entryAt j) ∧ u.grant = s.grant ∧
          u.events = s.events ∧
          (s.recount.guardTimer ≠ none →
            u.recount.causes.silence = true ∧ u.recount.requested = s.recount.requested ∧
            (s.recount.causes.silence = false → noneWaits u.queue .claim) ∧
            (s.recount.causes.silence = true → u.queue = s.queue)) ∧
          (s.recount.guardTimer = none → s.asksFor u .silence)))

/-- ISOLATION_HOLD_EXPIRY: the station enters LISTEN with its listen timer at T_listen. GHOST_TIMER_EXPIRY: the
ghost keeps its reservation with no time left, and a settled station whose queue holds no CLEAR queues its CLEAR, if
it is the lowest expired one, or finds its queue full of frames that do not make room. That an expiry carries the
running time to its moment is the model's choice (log 4). -/
def Obligations.HoldAndGhostTimers : Prop :=
  ∀ (s : State) (t : Time), s.resetLow = false →
    (s.station.holdTimer = some t →
      ∃ u, exec .isolationHoldExpiry s = .next u ∧ s.sameBeside u ∧ u.now = max s.now t ∧
        u.station = { Station.reset with
          state := .listen, listenTimer := some (u.now + ms (2 ^ s.config.silenceExp.toNat)) } ∧
        s.clearedFrom u ∧ u.grant.applied = s.grant.applied ∧ u.grant.demand = s.grant.demand ∧
        u.grant.cutoff = s.grant.cutoff ∧ u.grant.lower = s.grant.lower ∧ u.events = s.events) ∧
    (∀ n g, s.table.ghost? n = some g → g.timer = some t → s.table.entries.length = 32 →
      ∃ u, exec (.ghostTimerExpiry n) s = .next u ∧ s.sameBeside u ∧ u.engine = s.engine ∧
        u.now = max s.now t ∧
        u.table.ghost? n = some ⟨g.grant, none⟩ ∧
        (∀ k, k ≠ n → u.table.entryAt k = s.table.entryAt k) ∧ u.table.sum = s.table.sum ∧
        u.station = s.station ∧ u.grant = s.grant ∧ u.recount = s.recount ∧ u.events = s.events ∧
        (s.settled → queueSound s.queue → (∀ sl ∈ s.queue, sl.kind ≠ .clear) →
          (∀ k x, k.val < n.val → s.table.ghost? k = some x → x.timer ≠ none) →
          (∃ sl ∈ u.queue, sl.payload = .clear n ∧ sl.state = .queued) ∨ fullFor u.queue (.clear n)))

/-! ### Cut-off and flow hold (03, 08) -/

/-- LOWER_REQUEST_DEADLINE: CUTOFF is asserted and its pin high, A is 0, the request is gone, CUTOFF is raised
and no CLAIM waits; in ISOLATED with no hold running the isolation hold starts. That the deadline carries the
running time to its moment is the model's choice (log 4). -/
def Obligations.DeadlinesCutOff : Prop :=
  ∀ (s : State) (r : LowerRequest), s.resetLow = false → s.grant.lower = some r →
    ∃ t, exec .lowerRequestDeadline s = .next t ∧ s.sameBeside t ∧
      t.ring.entries = s.ring.entries ∧ t.now = max s.now r.deadline ∧
      t.grant = { s.grant with cutoff := true, applied := 0, lower := none } ∧ t.cutoffHigh = true ∧
      t.events = { s.events with flags := s.events.flags ||| Event.cutoff.bit } ∧
      (∀ sl ∈ t.queue, sl.kind = .claim → sl.state = .onLine) ∧
      t.table = s.table ∧ t.recount = s.recount ∧ t.engine = s.engine ∧
      (s.station.state = .isolated → s.station.holdTimer = none →
        t.station = { s.station with
          holdTimer := some (t.now + ms (2 ^ (s.config.silenceExp.toNat + 1))) }) ∧
      (s.station.state ≠ .isolated ∨ s.station.holdTimer ≠ none → t.station = s.station)

/-- OWN_SLOW_TIMER_EXPIRY: with fewer than 10 places free the flow hold asks for another SLOW, which is queued
where one is held, a slot is free, or a waiting frame of lower standing makes room; otherwise the hold ends.
DEFERRAL_EXPIRY ends the deferral. That an expiry carries the running time to its moment is the model's choice
(log 4). -/
def Obligations.FlowHoldTimers : Prop :=
  ∀ (s : State) (t : Time), s.resetLow = false →
    (s.ring.slowTimer = some t → s.station.state = .member →
      ∃ u, exec .ownSlowTimerExpiry s = .next u ∧ s.sameBeside u ∧ u.engine = s.engine ∧
        u.now = max s.now t ∧
        u.ring.entries = s.ring.entries ∧ u.ring.slowTimer = none ∧
        u.ring.deferral = s.ring.deferral ∧ u.table = s.table ∧ u.grant = s.grant ∧
        u.recount = s.recount ∧ u.station = s.station ∧ u.events = s.events ∧
        (s.ring.entries.length ≤ 6 → u.ring.flow = .off) ∧
        (6 < s.ring.entries.length → u.ring.flow = .sending ∧
          (s.queue = [] → ∃ sl ∈ u.queue, sl.payload = .slow ∧ sl.state = .queued) ∧
          (s.queue.length < 4 ∨ (∃ sl ∈ s.queue, sl.kind = .slow) ∨
              (queueSound s.queue ∧ s.gOwn ≤ s.grant.applied ∧
                ∃ sl ∈ s.queue, sl.state ≠ .onLine ∧ 4 < sl.payload.standing) →
            ∃ sl ∈ u.queue, sl.kind = .slow))) ∧
    (s.ring.deferral = some t → exec .deferralExpiry s = .next { s with
      now := max s.now t, ring := { s.ring with deferral := none } })

/-! ### Invariants -/

/-- Every step keeps the Transmit Queue within four frames of different kinds, with attempts, backoff and
follow-on values in range, and one slot ON_LINE exactly while the station transmits. -/
def Obligations.StepsKeepTheQueueWithinItsSlots : Prop :=
  ∀ s t : State, s.queueInv → s.lineInv → step s = .next t → t.queueInv ∧ t.lineInv

/-- Every step keeps A at 0 while CUTOFF is asserted, outside MEMBER, ISOLATED and BARRED, and while an
isolation hold runs; A at most H, H at most the station cap, and H at 0 in LOADING and FAULT. Every step of a
part within those bounds keeps A at most g_own in MEMBER, phase NONE or CHECK (R58), with the own frames, the
report values and the runs on which that rests; and outside a run the demand that claims go by is d_own (log 38). -/
def Obligations.StepsKeepTheAppliedGrantWithinBounds : Prop :=
  ∀ s t : State, s.grantInv → step s = .next t →
    t.grantInv ∧ (s.queueInv → s.lineInv → s.resetInv → s.appliedInv → t.appliedInv)

/-- At every step, whenever entitlement-valid holds, each member's E is at most its demand and the
entitlements sum to min(max(0, B - ghost reservations), sum of the members' demands). -/
def Obligations.StepsKeepTheBudgetShared : Prop :=
  ∀ s : State, s.shareInv → s.weightInv →
    (s.table.entValid = true → s.sharesBudget) ∧
    ∀ t, step s = .next t → t.shareInv ∧ t.weightInv ∧ (t.table.entValid = true → t.sharesBudget)

/-- Every step keeps the ring within 16 frames and the table at 32 entries, the recount count at most 4 and 0
in phase NONE, every counter at most 65535, the read attempts at most 3, and, while RESETN is low, every
block at its POWER reset values; some other member unconfirmed in CHECK, and all members in the run of a close. -/
def Obligations.StepsKeepTheStoresAndCounts : Prop :=
  ∀ s t : State, s.storeInv → s.countInv → s.counterInv → s.resetInv → s.readInv → s.confirmInv →
    step s = .next t →
    t.storeInv ∧ t.countInv ∧ t.counterInv ∧ t.resetInv ∧ t.readInv ∧ t.confirmInv

/-- The state after a POWER reset satisfies every invariant. -/
def Obligations.ResetSatisfiesTheInvariants : Prop :=
  State.reset.queueInv ∧ State.reset.lineInv ∧ State.reset.grantInv ∧ State.reset.appliedInv ∧
    State.reset.shareInv ∧ State.reset.weightInv ∧ State.reset.storeInv ∧ State.reset.countInv ∧
    State.reset.counterInv ∧ State.reset.resetInv ∧ State.reset.readInv ∧ State.reset.confirmInv
end

