-- ==== Sys2Proof/Laws/State.lean ====
section
/-! SUPPORT. What each update of one block leaves in each field of the state: one lemma a field, true by
definition. -/

namespace Sys2Proof.Machine

variable (s : State)

/-! ### withNow -/

@[simp] theorem withNow_now (x) : (s.withNow x).now = x := rfl
@[simp] theorem withNow_resetLow (x) : (s.withNow x).resetLow = s.resetLow := rfl
@[simp] theorem withNow_csnHigh (x) : (s.withNow x).csnHigh = s.csnHigh := rfl
@[simp] theorem withNow_loader (x) : (s.withNow x).loader = s.loader := rfl
@[simp] theorem withNow_line (x) : (s.withNow x).line = s.line := rfl
@[simp] theorem withNow_queue (x) : (s.withNow x).queue = s.queue := rfl
@[simp] theorem withNow_ring (x) : (s.withNow x).ring = s.ring := rfl
@[simp] theorem withNow_table (x) : (s.withNow x).table = s.table := rfl
@[simp] theorem withNow_engine (x) : (s.withNow x).engine = s.engine := rfl
@[simp] theorem withNow_grant (x) : (s.withNow x).grant = s.grant := rfl
@[simp] theorem withNow_recount (x) : (s.withNow x).recount = s.recount := rfl
@[simp] theorem withNow_station (x) : (s.withNow x).station = s.station := rfl
@[simp] theorem withNow_port (x) : (s.withNow x).port = s.port := rfl
@[simp] theorem withNow_events (x) : (s.withNow x).events = s.events := rfl
@[simp] theorem withNow_pending (x) : (s.withNow x).pending = s.pending := rfl

/-! ### withLoader -/

@[simp] theorem withLoader_now (x) : (s.withLoader x).now = s.now := rfl
@[simp] theorem withLoader_resetLow (x) : (s.withLoader x).resetLow = s.resetLow := rfl
@[simp] theorem withLoader_csnHigh (x) : (s.withLoader x).csnHigh = s.csnHigh := rfl
@[simp] theorem withLoader_loader (x) : (s.withLoader x).loader = x := rfl
@[simp] theorem withLoader_line (x) : (s.withLoader x).line = s.line := rfl
@[simp] theorem withLoader_queue (x) : (s.withLoader x).queue = s.queue := rfl
@[simp] theorem withLoader_ring (x) : (s.withLoader x).ring = s.ring := rfl
@[simp] theorem withLoader_table (x) : (s.withLoader x).table = s.table := rfl
@[simp] theorem withLoader_engine (x) : (s.withLoader x).engine = s.engine := rfl
@[simp] theorem withLoader_grant (x) : (s.withLoader x).grant = s.grant := rfl
@[simp] theorem withLoader_recount (x) : (s.withLoader x).recount = s.recount := rfl
@[simp] theorem withLoader_station (x) : (s.withLoader x).station = s.station := rfl
@[simp] theorem withLoader_port (x) : (s.withLoader x).port = s.port := rfl
@[simp] theorem withLoader_events (x) : (s.withLoader x).events = s.events := rfl
@[simp] theorem withLoader_pending (x) : (s.withLoader x).pending = s.pending := rfl

/-! ### withLine -/

@[simp] theorem withLine_now (x) : (s.withLine x).now = s.now := rfl
@[simp] theorem withLine_resetLow (x) : (s.withLine x).resetLow = s.resetLow := rfl
@[simp] theorem withLine_csnHigh (x) : (s.withLine x).csnHigh = s.csnHigh := rfl
@[simp] theorem withLine_loader (x) : (s.withLine x).loader = s.loader := rfl
@[simp] theorem withLine_line (x) : (s.withLine x).line = x := rfl
@[simp] theorem withLine_queue (x) : (s.withLine x).queue = s.queue := rfl
@[simp] theorem withLine_ring (x) : (s.withLine x).ring = s.ring := rfl
@[simp] theorem withLine_table (x) : (s.withLine x).table = s.table := rfl
@[simp] theorem withLine_engine (x) : (s.withLine x).engine = s.engine := rfl
@[simp] theorem withLine_grant (x) : (s.withLine x).grant = s.grant := rfl
@[simp] theorem withLine_recount (x) : (s.withLine x).recount = s.recount := rfl
@[simp] theorem withLine_station (x) : (s.withLine x).station = s.station := rfl
@[simp] theorem withLine_port (x) : (s.withLine x).port = s.port := rfl
@[simp] theorem withLine_events (x) : (s.withLine x).events = s.events := rfl
@[simp] theorem withLine_pending (x) : (s.withLine x).pending = s.pending := rfl

/-! ### withQueue -/

@[simp] theorem withQueue_now (x) : (s.withQueue x).now = s.now := rfl
@[simp] theorem withQueue_resetLow (x) : (s.withQueue x).resetLow = s.resetLow := rfl
@[simp] theorem withQueue_csnHigh (x) : (s.withQueue x).csnHigh = s.csnHigh := rfl
@[simp] theorem withQueue_loader (x) : (s.withQueue x).loader = s.loader := rfl
@[simp] theorem withQueue_line (x) : (s.withQueue x).line = s.line := rfl
@[simp] theorem withQueue_queue (x) : (s.withQueue x).queue = x := rfl
@[simp] theorem withQueue_ring (x) : (s.withQueue x).ring = s.ring := rfl
@[simp] theorem withQueue_table (x) : (s.withQueue x).table = s.table := rfl
@[simp] theorem withQueue_engine (x) : (s.withQueue x).engine = s.engine := rfl
@[simp] theorem withQueue_grant (x) : (s.withQueue x).grant = s.grant := rfl
@[simp] theorem withQueue_recount (x) : (s.withQueue x).recount = s.recount := rfl
@[simp] theorem withQueue_station (x) : (s.withQueue x).station = s.station := rfl
@[simp] theorem withQueue_port (x) : (s.withQueue x).port = s.port := rfl
@[simp] theorem withQueue_events (x) : (s.withQueue x).events = s.events := rfl
@[simp] theorem withQueue_pending (x) : (s.withQueue x).pending = s.pending := rfl

/-! ### withRing -/

@[simp] theorem withRing_now (x) : (s.withRing x).now = s.now := rfl
@[simp] theorem withRing_resetLow (x) : (s.withRing x).resetLow = s.resetLow := rfl
@[simp] theorem withRing_csnHigh (x) : (s.withRing x).csnHigh = s.csnHigh := rfl
@[simp] theorem withRing_loader (x) : (s.withRing x).loader = s.loader := rfl
@[simp] theorem withRing_line (x) : (s.withRing x).line = s.line := rfl
@[simp] theorem withRing_queue (x) : (s.withRing x).queue = s.queue := rfl
@[simp] theorem withRing_ring (x) : (s.withRing x).ring = x := rfl
@[simp] theorem withRing_table (x) : (s.withRing x).table = s.table := rfl
@[simp] theorem withRing_engine (x) : (s.withRing x).engine = s.engine := rfl
@[simp] theorem withRing_grant (x) : (s.withRing x).grant = s.grant := rfl
@[simp] theorem withRing_recount (x) : (s.withRing x).recount = s.recount := rfl
@[simp] theorem withRing_station (x) : (s.withRing x).station = s.station := rfl
@[simp] theorem withRing_port (x) : (s.withRing x).port = s.port := rfl
@[simp] theorem withRing_events (x) : (s.withRing x).events = s.events := rfl
@[simp] theorem withRing_pending (x) : (s.withRing x).pending = s.pending := rfl

/-! ### withTable -/

@[simp] theorem withTable_now (x) : (s.withTable x).now = s.now := rfl
@[simp] theorem withTable_resetLow (x) : (s.withTable x).resetLow = s.resetLow := rfl
@[simp] theorem withTable_csnHigh (x) : (s.withTable x).csnHigh = s.csnHigh := rfl
@[simp] theorem withTable_loader (x) : (s.withTable x).loader = s.loader := rfl
@[simp] theorem withTable_line (x) : (s.withTable x).line = s.line := rfl
@[simp] theorem withTable_queue (x) : (s.withTable x).queue = s.queue := rfl
@[simp] theorem withTable_ring (x) : (s.withTable x).ring = s.ring := rfl
@[simp] theorem withTable_table (x) : (s.withTable x).table = x := rfl
@[simp] theorem withTable_engine (x) : (s.withTable x).engine = s.engine := rfl
@[simp] theorem withTable_grant (x) : (s.withTable x).grant = s.grant := rfl
@[simp] theorem withTable_recount (x) : (s.withTable x).recount = s.recount := rfl
@[simp] theorem withTable_station (x) : (s.withTable x).station = s.station := rfl
@[simp] theorem withTable_port (x) : (s.withTable x).port = s.port := rfl
@[simp] theorem withTable_events (x) : (s.withTable x).events = s.events := rfl
@[simp] theorem withTable_pending (x) : (s.withTable x).pending = s.pending := rfl

/-! ### withEngine -/

@[simp] theorem withEngine_now (x) : (s.withEngine x).now = s.now := rfl
@[simp] theorem withEngine_resetLow (x) : (s.withEngine x).resetLow = s.resetLow := rfl
@[simp] theorem withEngine_csnHigh (x) : (s.withEngine x).csnHigh = s.csnHigh := rfl
@[simp] theorem withEngine_loader (x) : (s.withEngine x).loader = s.loader := rfl
@[simp] theorem withEngine_line (x) : (s.withEngine x).line = s.line := rfl
@[simp] theorem withEngine_queue (x) : (s.withEngine x).queue = s.queue := rfl
@[simp] theorem withEngine_ring (x) : (s.withEngine x).ring = s.ring := rfl
@[simp] theorem withEngine_table (x) : (s.withEngine x).table = s.table := rfl
@[simp] theorem withEngine_engine (x) : (s.withEngine x).engine = x := rfl
@[simp] theorem withEngine_grant (x) : (s.withEngine x).grant = s.grant := rfl
@[simp] theorem withEngine_recount (x) : (s.withEngine x).recount = s.recount := rfl
@[simp] theorem withEngine_station (x) : (s.withEngine x).station = s.station := rfl
@[simp] theorem withEngine_port (x) : (s.withEngine x).port = s.port := rfl
@[simp] theorem withEngine_events (x) : (s.withEngine x).events = s.events := rfl
@[simp] theorem withEngine_pending (x) : (s.withEngine x).pending = s.pending := rfl

/-! ### withGrant -/

@[simp] theorem withGrant_now (x) : (s.withGrant x).now = s.now := rfl
@[simp] theorem withGrant_resetLow (x) : (s.withGrant x).resetLow = s.resetLow := rfl
@[simp] theorem withGrant_csnHigh (x) : (s.withGrant x).csnHigh = s.csnHigh := rfl
@[simp] theorem withGrant_loader (x) : (s.withGrant x).loader = s.loader := rfl
@[simp] theorem withGrant_line (x) : (s.withGrant x).line = s.line := rfl
@[simp] theorem withGrant_queue (x) : (s.withGrant x).queue = s.queue := rfl
@[simp] theorem withGrant_ring (x) : (s.withGrant x).ring = s.ring := rfl
@[simp] theorem withGrant_table (x) : (s.withGrant x).table = s.table := rfl
@[simp] theorem withGrant_engine (x) : (s.withGrant x).engine = s.engine := rfl
@[simp] theorem withGrant_grant (x) : (s.withGrant x).grant = x := rfl
@[simp] theorem withGrant_recount (x) : (s.withGrant x).recount = s.recount := rfl
@[simp] theorem withGrant_station (x) : (s.withGrant x).station = s.station := rfl
@[simp] theorem withGrant_port (x) : (s.withGrant x).port = s.port := rfl
@[simp] theorem withGrant_events (x) : (s.withGrant x).events = s.events := rfl
@[simp] theorem withGrant_pending (x) : (s.withGrant x).pending = s.pending := rfl

/-! ### withRecount -/

@[simp] theorem withRecount_now (x) : (s.withRecount x).now = s.now := rfl
@[simp] theorem withRecount_resetLow (x) : (s.withRecount x).resetLow = s.resetLow := rfl
@[simp] theorem withRecount_csnHigh (x) : (s.withRecount x).csnHigh = s.csnHigh := rfl
@[simp] theorem withRecount_loader (x) : (s.withRecount x).loader = s.loader := rfl
@[simp] theorem withRecount_line (x) : (s.withRecount x).line = s.line := rfl
@[simp] theorem withRecount_queue (x) : (s.withRecount x).queue = s.queue := rfl
@[simp] theorem withRecount_ring (x) : (s.withRecount x).ring = s.ring := rfl
@[simp] theorem withRecount_table (x) : (s.withRecount x).table = s.table := rfl
@[simp] theorem withRecount_engine (x) : (s.withRecount x).engine = s.engine := rfl
@[simp] theorem withRecount_grant (x) : (s.withRecount x).grant = s.grant := rfl
@[simp] theorem withRecount_recount (x) : (s.withRecount x).recount = x := rfl
@[simp] theorem withRecount_station (x) : (s.withRecount x).station = s.station := rfl
@[simp] theorem withRecount_port (x) : (s.withRecount x).port = s.port := rfl
@[simp] theorem withRecount_events (x) : (s.withRecount x).events = s.events := rfl
@[simp] theorem withRecount_pending (x) : (s.withRecount x).pending = s.pending := rfl

/-! ### withStation -/

@[simp] theorem withStation_now (x) : (s.withStation x).now = s.now := rfl
@[simp] theorem withStation_resetLow (x) : (s.withStation x).resetLow = s.resetLow := rfl
@[simp] theorem withStation_csnHigh (x) : (s.withStation x).csnHigh = s.csnHigh := rfl
@[simp] theorem withStation_loader (x) : (s.withStation x).loader = s.loader := rfl
@[simp] theorem withStation_line (x) : (s.withStation x).line = s.line := rfl
@[simp] theorem withStation_queue (x) : (s.withStation x).queue = s.queue := rfl
@[simp] theorem withStation_ring (x) : (s.withStation x).ring = s.ring := rfl
@[simp] theorem withStation_table (x) : (s.withStation x).table = s.table := rfl
@[simp] theorem withStation_engine (x) : (s.withStation x).engine = s.engine := rfl
@[simp] theorem withStation_grant (x) : (s.withStation x).grant = s.grant := rfl
@[simp] theorem withStation_recount (x) : (s.withStation x).recount = s.recount := rfl
@[simp] theorem withStation_station (x) : (s.withStation x).station = x := rfl
@[simp] theorem withStation_port (x) : (s.withStation x).port = s.port := rfl
@[simp] theorem withStation_events (x) : (s.withStation x).events = s.events := rfl
@[simp] theorem withStation_pending (x) : (s.withStation x).pending = s.pending := rfl

/-! ### withPort -/

@[simp] theorem withPort_now (x) : (s.withPort x).now = s.now := rfl
@[simp] theorem withPort_resetLow (x) : (s.withPort x).resetLow = s.resetLow := rfl
@[simp] theorem withPort_csnHigh (x) : (s.withPort x).csnHigh = s.csnHigh := rfl
@[simp] theorem withPort_loader (x) : (s.withPort x).loader = s.loader := rfl
@[simp] theorem withPort_line (x) : (s.withPort x).line = s.line := rfl
@[simp] theorem withPort_queue (x) : (s.withPort x).queue = s.queue := rfl
@[simp] theorem withPort_ring (x) : (s.withPort x).ring = s.ring := rfl
@[simp] theorem withPort_table (x) : (s.withPort x).table = s.table := rfl
@[simp] theorem withPort_engine (x) : (s.withPort x).engine = s.engine := rfl
@[simp] theorem withPort_grant (x) : (s.withPort x).grant = s.grant := rfl
@[simp] theorem withPort_recount (x) : (s.withPort x).recount = s.recount := rfl
@[simp] theorem withPort_station (x) : (s.withPort x).station = s.station := rfl
@[simp] theorem withPort_port (x) : (s.withPort x).port = x := rfl
@[simp] theorem withPort_events (x) : (s.withPort x).events = s.events := rfl
@[simp] theorem withPort_pending (x) : (s.withPort x).pending = s.pending := rfl

/-! ### withEvents -/

@[simp] theorem withEvents_now (x) : (s.withEvents x).now = s.now := rfl
@[simp] theorem withEvents_resetLow (x) : (s.withEvents x).resetLow = s.resetLow := rfl
@[simp] theorem withEvents_csnHigh (x) : (s.withEvents x).csnHigh = s.csnHigh := rfl
@[simp] theorem withEvents_loader (x) : (s.withEvents x).loader = s.loader := rfl
@[simp] theorem withEvents_line (x) : (s.withEvents x).line = s.line := rfl
@[simp] theorem withEvents_queue (x) : (s.withEvents x).queue = s.queue := rfl
@[simp] theorem withEvents_ring (x) : (s.withEvents x).ring = s.ring := rfl
@[simp] theorem withEvents_table (x) : (s.withEvents x).table = s.table := rfl
@[simp] theorem withEvents_engine (x) : (s.withEvents x).engine = s.engine := rfl
@[simp] theorem withEvents_grant (x) : (s.withEvents x).grant = s.grant := rfl
@[simp] theorem withEvents_recount (x) : (s.withEvents x).recount = s.recount := rfl
@[simp] theorem withEvents_station (x) : (s.withEvents x).station = s.station := rfl
@[simp] theorem withEvents_port (x) : (s.withEvents x).port = s.port := rfl
@[simp] theorem withEvents_events (x) : (s.withEvents x).events = x := rfl
@[simp] theorem withEvents_pending (x) : (s.withEvents x).pending = s.pending := rfl

/-! ### withPending -/

@[simp] theorem withPending_now (x) : (s.withPending x).now = s.now := rfl
@[simp] theorem withPending_resetLow (x) : (s.withPending x).resetLow = s.resetLow := rfl
@[simp] theorem withPending_csnHigh (x) : (s.withPending x).csnHigh = s.csnHigh := rfl
@[simp] theorem withPending_loader (x) : (s.withPending x).loader = s.loader := rfl
@[simp] theorem withPending_line (x) : (s.withPending x).line = s.line := rfl
@[simp] theorem withPending_queue (x) : (s.withPending x).queue = s.queue := rfl
@[simp] theorem withPending_ring (x) : (s.withPending x).ring = s.ring := rfl
@[simp] theorem withPending_table (x) : (s.withPending x).table = s.table := rfl
@[simp] theorem withPending_engine (x) : (s.withPending x).engine = s.engine := rfl
@[simp] theorem withPending_grant (x) : (s.withPending x).grant = s.grant := rfl
@[simp] theorem withPending_recount (x) : (s.withPending x).recount = s.recount := rfl
@[simp] theorem withPending_station (x) : (s.withPending x).station = s.station := rfl
@[simp] theorem withPending_port (x) : (s.withPending x).port = s.port := rfl
@[simp] theorem withPending_events (x) : (s.withPending x).events = s.events := rfl
@[simp] theorem withPending_pending (x) : (s.withPending x).pending = x := rfl

end Sys2Proof.Machine
end

