-- ==== Sys2Proof/Laws/Frame.lean ====
section
/-! SUPPORT. What each shared operation leaves unchanged: one lemma an operation, every field of the state it
does not write. -/

namespace Sys2Proof.Machine

variable (s : State)

/-! ### Flags -/

@[simp] theorem raise_frame (e : Event) :
    (s.raise e).now = s.now ∧ (s.raise e).resetLow = s.resetLow ∧ (s.raise e).csnHigh = s.csnHigh
    ∧ (s.raise e).loader = s.loader ∧ (s.raise e).line = s.line ∧ (s.raise e).queue = s.queue ∧
    (s.raise e).ring = s.ring ∧ (s.raise e).table = s.table ∧ (s.raise e).engine = s.engine ∧
    (s.raise e).grant = s.grant ∧ (s.raise e).recount = s.recount ∧ (s.raise e).station =
    s.station ∧ (s.raise e).port = s.port ∧ (s.raise e).pending = s.pending := by
  simp [State.raise]

@[simp] theorem withCounters_frame (c : Counters) :
    (s.withCounters c).now = s.now ∧ (s.withCounters c).resetLow = s.resetLow ∧ (s.withCounters
    c).csnHigh = s.csnHigh ∧ (s.withCounters c).loader = s.loader ∧ (s.withCounters c).line =
    s.line ∧ (s.withCounters c).queue = s.queue ∧ (s.withCounters c).ring = s.ring ∧
    (s.withCounters c).table = s.table ∧ (s.withCounters c).engine = s.engine ∧ (s.withCounters
    c).grant = s.grant ∧ (s.withCounters c).recount = s.recount ∧ (s.withCounters c).station =
    s.station ∧ (s.withCounters c).port = s.port ∧ (s.withCounters c).pending = s.pending := by
  simp [State.withCounters]

@[simp] theorem countFrameError_frame :
    (s.countFrameError).now = s.now ∧ (s.countFrameError).resetLow = s.resetLow ∧
    (s.countFrameError).csnHigh = s.csnHigh ∧ (s.countFrameError).loader = s.loader ∧
    (s.countFrameError).line = s.line ∧ (s.countFrameError).queue = s.queue ∧
    (s.countFrameError).ring = s.ring ∧ (s.countFrameError).table = s.table ∧
    (s.countFrameError).engine = s.engine ∧ (s.countFrameError).grant = s.grant ∧
    (s.countFrameError).recount = s.recount ∧ (s.countFrameError).station = s.station ∧
    (s.countFrameError).port = s.port ∧ (s.countFrameError).pending = s.pending := by
  simp [State.countFrameError]

@[simp] theorem countStale_frame :
    (s.countStale).now = s.now ∧ (s.countStale).resetLow = s.resetLow ∧ (s.countStale).csnHigh =
    s.csnHigh ∧ (s.countStale).loader = s.loader ∧ (s.countStale).line = s.line ∧
    (s.countStale).queue = s.queue ∧ (s.countStale).ring = s.ring ∧ (s.countStale).table = s.table
    ∧ (s.countStale).engine = s.engine ∧ (s.countStale).grant = s.grant ∧ (s.countStale).recount =
    s.recount ∧ (s.countStale).station = s.station ∧ (s.countStale).port = s.port ∧
    (s.countStale).pending = s.pending := by
  simp [State.countStale]

@[simp] theorem countMismatch_frame :
    (s.countMismatch).now = s.now ∧ (s.countMismatch).resetLow = s.resetLow ∧
    (s.countMismatch).csnHigh = s.csnHigh ∧ (s.countMismatch).loader = s.loader ∧
    (s.countMismatch).line = s.line ∧ (s.countMismatch).queue = s.queue ∧ (s.countMismatch).ring =
    s.ring ∧ (s.countMismatch).table = s.table ∧ (s.countMismatch).engine = s.engine ∧
    (s.countMismatch).grant = s.grant ∧ (s.countMismatch).recount = s.recount ∧
    (s.countMismatch).station = s.station ∧ (s.countMismatch).port = s.port ∧
    (s.countMismatch).pending = s.pending := by
  simp [State.countMismatch]

@[simp] theorem countCollision_frame :
    (s.countCollision).now = s.now ∧ (s.countCollision).resetLow = s.resetLow ∧
    (s.countCollision).csnHigh = s.csnHigh ∧ (s.countCollision).loader = s.loader ∧
    (s.countCollision).line = s.line ∧ (s.countCollision).queue = s.queue ∧
    (s.countCollision).ring = s.ring ∧ (s.countCollision).table = s.table ∧
    (s.countCollision).engine = s.engine ∧ (s.countCollision).grant = s.grant ∧
    (s.countCollision).recount = s.recount ∧ (s.countCollision).station = s.station ∧
    (s.countCollision).port = s.port ∧ (s.countCollision).pending = s.pending := by
  simp [State.countCollision]

@[simp] theorem countAbandoned_frame :
    (s.countAbandoned).now = s.now ∧ (s.countAbandoned).resetLow = s.resetLow ∧
    (s.countAbandoned).csnHigh = s.csnHigh ∧ (s.countAbandoned).loader = s.loader ∧
    (s.countAbandoned).line = s.line ∧ (s.countAbandoned).queue = s.queue ∧
    (s.countAbandoned).ring = s.ring ∧ (s.countAbandoned).table = s.table ∧
    (s.countAbandoned).engine = s.engine ∧ (s.countAbandoned).grant = s.grant ∧
    (s.countAbandoned).recount = s.recount ∧ (s.countAbandoned).station = s.station ∧
    (s.countAbandoned).port = s.port ∧ (s.countAbandoned).pending = s.pending := by
  simp [State.countAbandoned]

@[simp] theorem countRingOverflow_frame :
    (s.countRingOverflow).now = s.now ∧ (s.countRingOverflow).resetLow = s.resetLow ∧
    (s.countRingOverflow).csnHigh = s.csnHigh ∧ (s.countRingOverflow).loader = s.loader ∧
    (s.countRingOverflow).line = s.line ∧ (s.countRingOverflow).queue = s.queue ∧
    (s.countRingOverflow).ring = s.ring ∧ (s.countRingOverflow).table = s.table ∧
    (s.countRingOverflow).engine = s.engine ∧ (s.countRingOverflow).grant = s.grant ∧
    (s.countRingOverflow).recount = s.recount ∧ (s.countRingOverflow).station = s.station ∧
    (s.countRingOverflow).port = s.port ∧ (s.countRingOverflow).pending = s.pending := by
  simp [State.countRingOverflow]

@[simp] theorem countRecount_frame :
    (s.countRecount).now = s.now ∧ (s.countRecount).resetLow = s.resetLow ∧
    (s.countRecount).csnHigh = s.csnHigh ∧ (s.countRecount).loader = s.loader ∧
    (s.countRecount).line = s.line ∧ (s.countRecount).queue = s.queue ∧ (s.countRecount).ring =
    s.ring ∧ (s.countRecount).table = s.table ∧ (s.countRecount).engine = s.engine ∧
    (s.countRecount).grant = s.grant ∧ (s.countRecount).recount = s.recount ∧
    (s.countRecount).station = s.station ∧ (s.countRecount).port = s.port ∧
    (s.countRecount).pending = s.pending := by
  simp [State.countRecount]

/-! ### Time, table and engine -/

@[simp] theorem reach_frame (t : Time) :
    (s.reach t).resetLow = s.resetLow ∧ (s.reach t).csnHigh = s.csnHigh ∧ (s.reach t).loader =
    s.loader ∧ (s.reach t).line = s.line ∧ (s.reach t).queue = s.queue ∧ (s.reach t).ring = s.ring
    ∧ (s.reach t).table = s.table ∧ (s.reach t).engine = s.engine ∧ (s.reach t).grant = s.grant ∧
    (s.reach t).recount = s.recount ∧ (s.reach t).station = s.station ∧ (s.reach t).port = s.port
    ∧ (s.reach t).events = s.events ∧ (s.reach t).pending = s.pending := by
  simp [State.reach]

@[simp] theorem recomputeStarved_frame :
    (s.recomputeStarved).now = s.now ∧ (s.recomputeStarved).resetLow = s.resetLow ∧
    (s.recomputeStarved).csnHigh = s.csnHigh ∧ (s.recomputeStarved).loader = s.loader ∧
    (s.recomputeStarved).line = s.line ∧ (s.recomputeStarved).queue = s.queue ∧
    (s.recomputeStarved).ring = s.ring ∧ (s.recomputeStarved).engine = s.engine ∧
    (s.recomputeStarved).grant = s.grant ∧ (s.recomputeStarved).recount = s.recount ∧
    (s.recomputeStarved).station = s.station ∧ (s.recomputeStarved).port = s.port ∧
    (s.recomputeStarved).events = s.events ∧ (s.recomputeStarved).pending = s.pending := by
  simp [State.recomputeStarved]

@[simp] theorem takeSnapshotNow_frame :
    (s.takeSnapshotNow).now = s.now ∧ (s.takeSnapshotNow).resetLow = s.resetLow ∧
    (s.takeSnapshotNow).csnHigh = s.csnHigh ∧ (s.takeSnapshotNow).loader = s.loader ∧
    (s.takeSnapshotNow).line = s.line ∧ (s.takeSnapshotNow).queue = s.queue ∧
    (s.takeSnapshotNow).ring = s.ring ∧ (s.takeSnapshotNow).engine = s.engine ∧
    (s.takeSnapshotNow).grant = s.grant ∧ (s.takeSnapshotNow).recount = s.recount ∧
    (s.takeSnapshotNow).station = s.station ∧ (s.takeSnapshotNow).port = s.port ∧
    (s.takeSnapshotNow).events = s.events ∧ (s.takeSnapshotNow).pending = s.pending := by
  simp [State.takeSnapshotNow]

@[simp] theorem startRun_frame (w : RunWork) :
    (s.startRun w).now = s.now ∧ (s.startRun w).resetLow = s.resetLow ∧ (s.startRun w).csnHigh =
    s.csnHigh ∧ (s.startRun w).loader = s.loader ∧ (s.startRun w).line = s.line ∧ (s.startRun
    w).queue = s.queue ∧ (s.startRun w).ring = s.ring ∧ (s.startRun w).grant = s.grant ∧
    (s.startRun w).recount = s.recount ∧ (s.startRun w).station = s.station ∧ (s.startRun w).port
    = s.port ∧ (s.startRun w).events = s.events ∧ (s.startRun w).pending = s.pending := by
  simp [State.startRun]

@[simp] theorem completeRun_frame (r : Run) :
    (s.completeRun r).now = s.now ∧ (s.completeRun r).resetLow = s.resetLow ∧ (s.completeRun
    r).csnHigh = s.csnHigh ∧ (s.completeRun r).loader = s.loader ∧ (s.completeRun r).line = s.line
    ∧ (s.completeRun r).queue = s.queue ∧ (s.completeRun r).ring = s.ring ∧ (s.completeRun
    r).grant = s.grant ∧ (s.completeRun r).recount = s.recount ∧ (s.completeRun r).station =
    s.station ∧ (s.completeRun r).port = s.port ∧ (s.completeRun r).events = s.events ∧
    (s.completeRun r).pending = s.pending := by
  simp [State.completeRun]

/-! ### Transmit Queue -/

@[simp] theorem enqueue_frame (p : Payload) :
    (s.enqueue p).now = s.now ∧ (s.enqueue p).resetLow = s.resetLow ∧ (s.enqueue p).csnHigh =
    s.csnHigh ∧ (s.enqueue p).loader = s.loader ∧ (s.enqueue p).line = s.line ∧ (s.enqueue p).ring
    = s.ring ∧ (s.enqueue p).table = s.table ∧ (s.enqueue p).engine = s.engine ∧ (s.enqueue
    p).grant = s.grant ∧ (s.enqueue p).recount = s.recount ∧ (s.enqueue p).station = s.station ∧
    (s.enqueue p).port = s.port ∧ (s.enqueue p).events = s.events ∧ (s.enqueue p).pending =
    s.pending := by
  simp [State.enqueue]

@[simp] theorem withdraw_frame (k : Kind) :
    (s.withdraw k).now = s.now ∧ (s.withdraw k).resetLow = s.resetLow ∧ (s.withdraw k).csnHigh =
    s.csnHigh ∧ (s.withdraw k).loader = s.loader ∧ (s.withdraw k).line = s.line ∧ (s.withdraw
    k).ring = s.ring ∧ (s.withdraw k).table = s.table ∧ (s.withdraw k).engine = s.engine ∧
    (s.withdraw k).grant = s.grant ∧ (s.withdraw k).recount = s.recount ∧ (s.withdraw k).station =
    s.station ∧ (s.withdraw k).port = s.port ∧ (s.withdraw k).events = s.events ∧ (s.withdraw
    k).pending = s.pending := by
  simp [State.withdraw]

@[simp] theorem withdrawWaiting_frame (k : Kind) :
    (s.withdrawWaiting k).now = s.now ∧ (s.withdrawWaiting k).resetLow = s.resetLow ∧
    (s.withdrawWaiting k).csnHigh = s.csnHigh ∧ (s.withdrawWaiting k).loader = s.loader ∧
    (s.withdrawWaiting k).line = s.line ∧ (s.withdrawWaiting k).ring = s.ring ∧ (s.withdrawWaiting
    k).table = s.table ∧ (s.withdrawWaiting k).engine = s.engine ∧ (s.withdrawWaiting k).grant =
    s.grant ∧ (s.withdrawWaiting k).recount = s.recount ∧ (s.withdrawWaiting k).station =
    s.station ∧ (s.withdrawWaiting k).port = s.port ∧ (s.withdrawWaiting k).events = s.events ∧
    (s.withdrawWaiting k).pending = s.pending := by
  simp [State.withdrawWaiting]

/-! ### Grant Control -/

@[simp] theorem noticeZero_frame :
    (s.noticeZero).now = s.now ∧ (s.noticeZero).resetLow = s.resetLow ∧ (s.noticeZero).csnHigh =
    s.csnHigh ∧ (s.noticeZero).loader = s.loader ∧ (s.noticeZero).line = s.line ∧
    (s.noticeZero).queue = s.queue ∧ (s.noticeZero).ring = s.ring ∧ (s.noticeZero).table = s.table
    ∧ (s.noticeZero).engine = s.engine ∧ (s.noticeZero).grant = s.grant ∧ (s.noticeZero).recount =
    s.recount ∧ (s.noticeZero).port = s.port ∧ (s.noticeZero).events = s.events ∧
    (s.noticeZero).pending = s.pending := by
  unfold State.noticeZero; split <;> simp

@[simp] theorem createLower_frame (c : LowerCause) (n : Nat) :
    (s.createLower c n).now = s.now ∧ (s.createLower c n).resetLow = s.resetLow ∧ (s.createLower c
    n).csnHigh = s.csnHigh ∧ (s.createLower c n).loader = s.loader ∧ (s.createLower c n).line =
    s.line ∧ (s.createLower c n).ring = s.ring ∧ (s.createLower c n).table = s.table ∧
    (s.createLower c n).engine = s.engine ∧ (s.createLower c n).recount = s.recount ∧
    (s.createLower c n).station = s.station ∧ (s.createLower c n).port = s.port ∧ (s.createLower c
    n).pending = s.pending := by
  simp [State.createLower]

@[simp] theorem clearLower_frame :
    (s.clearLower).now = s.now ∧ (s.clearLower).resetLow = s.resetLow ∧ (s.clearLower).csnHigh =
    s.csnHigh ∧ (s.clearLower).loader = s.loader ∧ (s.clearLower).line = s.line ∧
    (s.clearLower).queue = s.queue ∧ (s.clearLower).ring = s.ring ∧ (s.clearLower).table = s.table
    ∧ (s.clearLower).engine = s.engine ∧ (s.clearLower).recount = s.recount ∧
    (s.clearLower).station = s.station ∧ (s.clearLower).port = s.port ∧ (s.clearLower).events =
    s.events ∧ (s.clearLower).pending = s.pending := by
  simp [State.clearLower]

@[simp] theorem satisfyLower_frame :
    (s.satisfyLower).now = s.now ∧ (s.satisfyLower).resetLow = s.resetLow ∧
    (s.satisfyLower).csnHigh = s.csnHigh ∧ (s.satisfyLower).loader = s.loader ∧
    (s.satisfyLower).line = s.line ∧ (s.satisfyLower).queue = s.queue ∧ (s.satisfyLower).ring =
    s.ring ∧ (s.satisfyLower).table = s.table ∧ (s.satisfyLower).engine = s.engine ∧
    (s.satisfyLower).recount = s.recount ∧ (s.satisfyLower).station = s.station ∧
    (s.satisfyLower).port = s.port ∧ (s.satisfyLower).events = s.events ∧ (s.satisfyLower).pending
    = s.pending := by
  unfold State.satisfyLower; (repeat' split) <;> simp

@[simp] theorem recheckYield_frame (r : LowerRequest) :
    (s.recheckYield r).now = s.now ∧ (s.recheckYield r).resetLow = s.resetLow ∧ (s.recheckYield
    r).csnHigh = s.csnHigh ∧ (s.recheckYield r).loader = s.loader ∧ (s.recheckYield r).line =
    s.line ∧ (s.recheckYield r).queue = s.queue ∧ (s.recheckYield r).ring = s.ring ∧
    (s.recheckYield r).table = s.table ∧ (s.recheckYield r).engine = s.engine ∧ (s.recheckYield
    r).recount = s.recount ∧ (s.recheckYield r).station = s.station ∧ (s.recheckYield r).port =
    s.port ∧ (s.recheckYield r).pending = s.pending := by
  unfold State.recheckYield; (repeat' split) <;> simp

@[simp] theorem lookYield_frame :
    (s.lookYield).now = s.now ∧ (s.lookYield).resetLow = s.resetLow ∧ (s.lookYield).csnHigh =
    s.csnHigh ∧ (s.lookYield).loader = s.loader ∧ (s.lookYield).line = s.line ∧ (s.lookYield).ring
    = s.ring ∧ (s.lookYield).table = s.table ∧ (s.lookYield).engine = s.engine ∧
    (s.lookYield).recount = s.recount ∧ (s.lookYield).station = s.station ∧ (s.lookYield).port =
    s.port ∧ (s.lookYield).pending = s.pending := by
  unfold State.lookYield; (repeat' split) <;> simp

@[simp] theorem lowerApplied_frame (v : Nat) :
    (s.lowerApplied v).now = s.now ∧ (s.lowerApplied v).resetLow = s.resetLow ∧ (s.lowerApplied
    v).csnHigh = s.csnHigh ∧ (s.lowerApplied v).loader = s.loader ∧ (s.lowerApplied v).line =
    s.line ∧ (s.lowerApplied v).ring = s.ring ∧ (s.lowerApplied v).table = s.table ∧
    (s.lowerApplied v).engine = s.engine ∧ (s.lowerApplied v).recount = s.recount ∧
    (s.lowerApplied v).port = s.port ∧ (s.lowerApplied v).pending = s.pending := by
  simp [State.lowerApplied]

@[simp] theorem cutOff_frame :
    (s.cutOff).now = s.now ∧ (s.cutOff).resetLow = s.resetLow ∧ (s.cutOff).csnHigh = s.csnHigh ∧
    (s.cutOff).loader = s.loader ∧ (s.cutOff).line = s.line ∧ (s.cutOff).ring = s.ring ∧
    (s.cutOff).table = s.table ∧ (s.cutOff).engine = s.engine ∧ (s.cutOff).recount = s.recount ∧
    (s.cutOff).port = s.port ∧ (s.cutOff).pending = s.pending := by
  simp [State.cutOff]

@[simp] theorem isolateLower_frame :
    (s.isolateLower).now = s.now ∧ (s.isolateLower).resetLow = s.resetLow ∧
    (s.isolateLower).csnHigh = s.csnHigh ∧ (s.isolateLower).loader = s.loader ∧
    (s.isolateLower).line = s.line ∧ (s.isolateLower).ring = s.ring ∧ (s.isolateLower).table =
    s.table ∧ (s.isolateLower).engine = s.engine ∧ (s.isolateLower).recount = s.recount ∧
    (s.isolateLower).station = s.station ∧ (s.isolateLower).port = s.port ∧
    (s.isolateLower).pending = s.pending := by
  unfold State.isolateLower; (repeat' split) <;> simp

@[simp] theorem clearBackoff_frame :
    (s.clearBackoff).now = s.now ∧ (s.clearBackoff).resetLow = s.resetLow ∧
    (s.clearBackoff).csnHigh = s.csnHigh ∧ (s.clearBackoff).loader = s.loader ∧
    (s.clearBackoff).line = s.line ∧ (s.clearBackoff).queue = s.queue ∧ (s.clearBackoff).ring =
    s.ring ∧ (s.clearBackoff).table = s.table ∧ (s.clearBackoff).engine = s.engine ∧
    (s.clearBackoff).recount = s.recount ∧ (s.clearBackoff).station = s.station ∧
    (s.clearBackoff).port = s.port ∧ (s.clearBackoff).events = s.events ∧ (s.clearBackoff).pending
    = s.pending := by
  simp [State.clearBackoff]

@[simp] theorem noticeChanged_frame :
    (s.noticeChanged).now = s.now ∧ (s.noticeChanged).resetLow = s.resetLow ∧
    (s.noticeChanged).csnHigh = s.csnHigh ∧ (s.noticeChanged).loader = s.loader ∧
    (s.noticeChanged).line = s.line ∧ (s.noticeChanged).queue = s.queue ∧ (s.noticeChanged).ring =
    s.ring ∧ (s.noticeChanged).table = s.table ∧ (s.noticeChanged).engine = s.engine ∧
    (s.noticeChanged).recount = s.recount ∧ (s.noticeChanged).station = s.station ∧
    (s.noticeChanged).port = s.port ∧ (s.noticeChanged).events = s.events ∧
    (s.noticeChanged).pending = s.pending := by
  simp [State.noticeChanged]

@[simp] theorem giveNotices_frame (b : Bool) :
    (s.giveNotices b).now = s.now ∧ (s.giveNotices b).resetLow = s.resetLow ∧ (s.giveNotices
    b).csnHigh = s.csnHigh ∧ (s.giveNotices b).loader = s.loader ∧ (s.giveNotices b).line = s.line
    ∧ (s.giveNotices b).ring = s.ring ∧ (s.giveNotices b).table = s.table ∧ (s.giveNotices
    b).engine = s.engine ∧ (s.giveNotices b).recount = s.recount ∧ (s.giveNotices b).station =
    s.station ∧ (s.giveNotices b).port = s.port ∧ (s.giveNotices b).pending = s.pending := by
  unfold State.giveNotices; split <;> [skip; split] <;> simp

@[simp] theorem ownClaimApplied_frame (i a : Nat) :
    (s.ownClaimApplied i a).now = s.now ∧ (s.ownClaimApplied i a).resetLow = s.resetLow ∧
    (s.ownClaimApplied i a).csnHigh = s.csnHigh ∧ (s.ownClaimApplied i a).loader = s.loader ∧
    (s.ownClaimApplied i a).line = s.line ∧ (s.ownClaimApplied i a).queue = s.queue ∧
    (s.ownClaimApplied i a).ring = s.ring ∧ (s.ownClaimApplied i a).table = s.table ∧
    (s.ownClaimApplied i a).engine = s.engine ∧ (s.ownClaimApplied i a).recount = s.recount ∧
    (s.ownClaimApplied i a).station = s.station ∧ (s.ownClaimApplied i a).port = s.port ∧
    (s.ownClaimApplied i a).pending = s.pending := by
  unfold State.ownClaimApplied; dsimp only; (repeat' split) <;> simp

@[simp] theorem ownClaimNotices_frame (i a : Nat) :
    (s.ownClaimNotices i a).now = s.now ∧ (s.ownClaimNotices i a).resetLow = s.resetLow ∧
    (s.ownClaimNotices i a).csnHigh = s.csnHigh ∧ (s.ownClaimNotices i a).loader = s.loader ∧
    (s.ownClaimNotices i a).line = s.line ∧ (s.ownClaimNotices i a).ring = s.ring ∧
    (s.ownClaimNotices i a).table = s.table ∧ (s.ownClaimNotices i a).engine = s.engine ∧
    (s.ownClaimNotices i a).recount = s.recount ∧ (s.ownClaimNotices i a).station = s.station ∧
    (s.ownClaimNotices i a).port = s.port ∧ (s.ownClaimNotices i a).pending = s.pending := by
  simp [State.ownClaimNotices]

@[simp] theorem setSuspect_frame :
    (s.setSuspect).now = s.now ∧ (s.setSuspect).resetLow = s.resetLow ∧ (s.setSuspect).csnHigh =
    s.csnHigh ∧ (s.setSuspect).loader = s.loader ∧ (s.setSuspect).line = s.line ∧
    (s.setSuspect).ring = s.ring ∧ (s.setSuspect).engine = s.engine ∧ (s.setSuspect).grant =
    s.grant ∧ (s.setSuspect).recount = s.recount ∧ (s.setSuspect).station = s.station ∧
    (s.setSuspect).port = s.port ∧ (s.setSuspect).events = s.events ∧ (s.setSuspect).pending =
    s.pending := by
  unfold State.setSuspect; split <;> simp

@[simp] theorem setDiverged_frame :
    (s.setDiverged).now = s.now ∧ (s.setDiverged).resetLow = s.resetLow ∧ (s.setDiverged).csnHigh
    = s.csnHigh ∧ (s.setDiverged).loader = s.loader ∧ (s.setDiverged).line = s.line ∧
    (s.setDiverged).ring = s.ring ∧ (s.setDiverged).engine = s.engine ∧ (s.setDiverged).grant =
    s.grant ∧ (s.setDiverged).recount = s.recount ∧ (s.setDiverged).station = s.station ∧
    (s.setDiverged).port = s.port ∧ (s.setDiverged).events = s.events ∧ (s.setDiverged).pending =
    s.pending := by
  unfold State.setDiverged; split <;> simp

/-! ### Station Controller -/

@[simp] theorem enter_frame (x : StationState) :
    (s.enter x).now = s.now ∧ (s.enter x).resetLow = s.resetLow ∧ (s.enter x).csnHigh = s.csnHigh
    ∧ (s.enter x).loader = s.loader ∧ (s.enter x).line = s.line ∧ (s.enter x).port = s.port ∧
    (s.enter x).events = s.events ∧ (s.enter x).pending = s.pending := by
  simp [State.enter]

@[simp] theorem enterListen_frame :
    (s.enterListen).now = s.now ∧ (s.enterListen).resetLow = s.resetLow ∧ (s.enterListen).csnHigh
    = s.csnHigh ∧ (s.enterListen).loader = s.loader ∧ (s.enterListen).line = s.line ∧
    (s.enterListen).port = s.port ∧ (s.enterListen).events = s.events ∧ (s.enterListen).pending =
    s.pending := by
  simp [State.enterListen]

@[simp] theorem enterIsolated_frame :
    (s.enterIsolated).now = s.now ∧ (s.enterIsolated).resetLow = s.resetLow ∧
    (s.enterIsolated).csnHigh = s.csnHigh ∧ (s.enterIsolated).loader = s.loader ∧
    (s.enterIsolated).line = s.line ∧ (s.enterIsolated).port = s.port ∧ (s.enterIsolated).pending
    = s.pending := by
  simp [State.enterIsolated]

@[simp] theorem enterBarred_frame :
    (s.enterBarred).now = s.now ∧ (s.enterBarred).resetLow = s.resetLow ∧ (s.enterBarred).csnHigh
    = s.csnHigh ∧ (s.enterBarred).loader = s.loader ∧ (s.enterBarred).line = s.line ∧
    (s.enterBarred).port = s.port ∧ (s.enterBarred).pending = s.pending := by
  simp [State.enterBarred]

@[simp] theorem enterParked_frame :
    (s.enterParked).now = s.now ∧ (s.enterParked).resetLow = s.resetLow ∧ (s.enterParked).csnHigh
    = s.csnHigh ∧ (s.enterParked).loader = s.loader ∧ (s.enterParked).line = s.line ∧
    (s.enterParked).port = s.port ∧ (s.enterParked).events = s.events ∧ (s.enterParked).pending =
    s.pending := by
  simp [State.enterParked]

@[simp] theorem requestIsolated_frame :
    (s.requestIsolated).now = s.now ∧ (s.requestIsolated).resetLow = s.resetLow ∧
    (s.requestIsolated).csnHigh = s.csnHigh ∧ (s.requestIsolated).loader = s.loader ∧
    (s.requestIsolated).line = s.line ∧ (s.requestIsolated).port = s.port ∧
    (s.requestIsolated).pending = s.pending := by
  unfold State.requestIsolated; split <;> simp

@[simp] theorem requestBarred_frame :
    (s.requestBarred).now = s.now ∧ (s.requestBarred).resetLow = s.resetLow ∧
    (s.requestBarred).csnHigh = s.csnHigh ∧ (s.requestBarred).loader = s.loader ∧
    (s.requestBarred).line = s.line ∧ (s.requestBarred).port = s.port ∧ (s.requestBarred).pending
    = s.pending := by
  unfold State.requestBarred; split <;> simp

@[simp] theorem lookFlow_frame :
    (s.lookFlow).now = s.now ∧ (s.lookFlow).resetLow = s.resetLow ∧ (s.lookFlow).csnHigh =
    s.csnHigh ∧ (s.lookFlow).loader = s.loader ∧ (s.lookFlow).line = s.line ∧ (s.lookFlow).table =
    s.table ∧ (s.lookFlow).engine = s.engine ∧ (s.lookFlow).grant = s.grant ∧ (s.lookFlow).recount
    = s.recount ∧ (s.lookFlow).station = s.station ∧ (s.lookFlow).port = s.port ∧
    (s.lookFlow).events = s.events ∧ (s.lookFlow).pending = s.pending := by
  unfold State.lookFlow; split <;> simp

@[simp] theorem enterMember_frame :
    (s.enterMember).now = s.now ∧ (s.enterMember).resetLow = s.resetLow ∧ (s.enterMember).csnHigh
    = s.csnHigh ∧ (s.enterMember).loader = s.loader ∧ (s.enterMember).line = s.line ∧
    (s.enterMember).table = s.table ∧ (s.enterMember).engine = s.engine ∧ (s.enterMember).grant =
    s.grant ∧ (s.enterMember).recount = s.recount ∧ (s.enterMember).port = s.port ∧
    (s.enterMember).events = s.events ∧ (s.enterMember).pending = s.pending := by
  simp [State.enterMember]

@[simp] theorem leaveLoading_frame :
    (s.leaveLoading).now = s.now ∧ (s.leaveLoading).resetLow = s.resetLow ∧
    (s.leaveLoading).csnHigh = s.csnHigh ∧ (s.leaveLoading).loader = s.loader ∧
    (s.leaveLoading).port = s.port ∧ (s.leaveLoading).events = s.events ∧ (s.leaveLoading).pending
    = s.pending := by
  simp [State.leaveLoading]

/-! ### Recount Controller -/

@[simp] theorem giveEpoch_frame (x : Half) :
    (s.giveEpoch x).now = s.now ∧ (s.giveEpoch x).resetLow = s.resetLow ∧ (s.giveEpoch x).csnHigh
    = s.csnHigh ∧ (s.giveEpoch x).loader = s.loader ∧ (s.giveEpoch x).line = s.line ∧ (s.giveEpoch
    x).queue = s.queue ∧ (s.giveEpoch x).ring = s.ring ∧ (s.giveEpoch x).table = s.table ∧
    (s.giveEpoch x).engine = s.engine ∧ (s.giveEpoch x).grant = s.grant ∧ (s.giveEpoch x).station
    = s.station ∧ (s.giveEpoch x).port = s.port ∧ (s.giveEpoch x).events = s.events ∧ (s.giveEpoch
    x).pending = s.pending := by
  simp [State.giveEpoch]

@[simp] theorem requestRecount_frame (c : Cause) :
    (s.requestRecount c).now = s.now ∧ (s.requestRecount c).resetLow = s.resetLow ∧
    (s.requestRecount c).csnHigh = s.csnHigh ∧ (s.requestRecount c).loader = s.loader ∧
    (s.requestRecount c).line = s.line ∧ (s.requestRecount c).ring = s.ring ∧ (s.requestRecount
    c).table = s.table ∧ (s.requestRecount c).engine = s.engine ∧ (s.requestRecount c).grant =
    s.grant ∧ (s.requestRecount c).station = s.station ∧ (s.requestRecount c).port = s.port ∧
    (s.requestRecount c).events = s.events ∧ (s.requestRecount c).pending = s.pending := by
  unfold State.requestRecount; dsimp only; split <;> simp

@[simp] theorem addPending_frame (c : Cause) :
    (s.addPending c).now = s.now ∧ (s.addPending c).resetLow = s.resetLow ∧ (s.addPending
    c).csnHigh = s.csnHigh ∧ (s.addPending c).loader = s.loader ∧ (s.addPending c).line = s.line ∧
    (s.addPending c).ring = s.ring ∧ (s.addPending c).table = s.table ∧ (s.addPending c).engine =
    s.engine ∧ (s.addPending c).grant = s.grant ∧ (s.addPending c).station = s.station ∧
    (s.addPending c).port = s.port ∧ (s.addPending c).events = s.events ∧ (s.addPending c).pending
    = s.pending := by
  unfold State.addPending; split <;> simp

@[simp] theorem giveCause_frame (c : Cause) :
    (s.giveCause c).now = s.now ∧ (s.giveCause c).resetLow = s.resetLow ∧ (s.giveCause c).csnHigh
    = s.csnHigh ∧ (s.giveCause c).loader = s.loader ∧ (s.giveCause c).line = s.line ∧ (s.giveCause
    c).ring = s.ring ∧ (s.giveCause c).table = s.table ∧ (s.giveCause c).engine = s.engine ∧
    (s.giveCause c).grant = s.grant ∧ (s.giveCause c).station = s.station ∧ (s.giveCause c).port =
    s.port ∧ (s.giveCause c).events = s.events ∧ (s.giveCause c).pending = s.pending := by
  unfold State.giveCause; (repeat' split) <;> simp

@[simp] theorem recountBack_frame :
    (s.recountBack).now = s.now ∧ (s.recountBack).resetLow = s.resetLow ∧ (s.recountBack).csnHigh
    = s.csnHigh ∧ (s.recountBack).loader = s.loader ∧ (s.recountBack).line = s.line ∧
    (s.recountBack).queue = s.queue ∧ (s.recountBack).ring = s.ring ∧ (s.recountBack).table =
    s.table ∧ (s.recountBack).engine = s.engine ∧ (s.recountBack).grant = s.grant ∧
    (s.recountBack).station = s.station ∧ (s.recountBack).port = s.port ∧ (s.recountBack).events =
    s.events ∧ (s.recountBack).pending = s.pending := by
  unfold State.recountBack; split <;> simp

@[simp] theorem withdrawForWindow_frame :
    (s.withdrawForWindow).now = s.now ∧ (s.withdrawForWindow).resetLow = s.resetLow ∧
    (s.withdrawForWindow).csnHigh = s.csnHigh ∧ (s.withdrawForWindow).loader = s.loader ∧
    (s.withdrawForWindow).line = s.line ∧ (s.withdrawForWindow).ring = s.ring ∧
    (s.withdrawForWindow).table = s.table ∧ (s.withdrawForWindow).engine = s.engine ∧
    (s.withdrawForWindow).grant = s.grant ∧ (s.withdrawForWindow).recount = s.recount ∧
    (s.withdrawForWindow).station = s.station ∧ (s.withdrawForWindow).port = s.port ∧
    (s.withdrawForWindow).events = s.events ∧ (s.withdrawForWindow).pending = s.pending := by
  simp [State.withdrawForWindow]

@[simp] theorem windowEntry_frame (x : Half) :
    (s.windowEntry x).now = s.now ∧ (s.windowEntry x).resetLow = s.resetLow ∧ (s.windowEntry
    x).csnHigh = s.csnHigh ∧ (s.windowEntry x).loader = s.loader ∧ (s.windowEntry x).line = s.line
    ∧ (s.windowEntry x).port = s.port ∧ (s.windowEntry x).pending = s.pending := by
  unfold State.windowEntry; split <;> simp

@[simp] theorem absorb_frame :
    (s.absorb).now = s.now ∧ (s.absorb).resetLow = s.resetLow ∧ (s.absorb).csnHigh = s.csnHigh ∧
    (s.absorb).loader = s.loader ∧ (s.absorb).line = s.line ∧ (s.absorb).ring = s.ring ∧
    (s.absorb).table = s.table ∧ (s.absorb).engine = s.engine ∧ (s.absorb).grant = s.grant ∧
    (s.absorb).station = s.station ∧ (s.absorb).port = s.port ∧ (s.absorb).events = s.events ∧
    (s.absorb).pending = s.pending := by
  unfold State.absorb; split <;> simp

@[simp] theorem judgeRecount_frame (x : Half) :
    (s.judgeRecount x).now = s.now ∧ (s.judgeRecount x).resetLow = s.resetLow ∧ (s.judgeRecount
    x).csnHigh = s.csnHigh ∧ (s.judgeRecount x).loader = s.loader ∧ (s.judgeRecount x).line =
    s.line ∧ (s.judgeRecount x).port = s.port ∧ (s.judgeRecount x).pending = s.pending := by
  unfold State.judgeRecount; (repeat' split) <;> simp

@[simp] theorem takeRecount_frame (x : Half) (b : Bool) :
    (s.takeRecount x b).now = s.now ∧ (s.takeRecount x b).resetLow = s.resetLow ∧ (s.takeRecount x
    b).csnHigh = s.csnHigh ∧ (s.takeRecount x b).loader = s.loader ∧ (s.takeRecount x b).line =
    s.line ∧ (s.takeRecount x b).port = s.port ∧ (s.takeRecount x b).pending = s.pending := by
  unfold State.takeRecount; split <;> simp

@[simp] theorem windowReport_frame (r : ReportRecord) (x : Half) :
    (s.windowReport r x).now = s.now ∧ (s.windowReport r x).resetLow = s.resetLow ∧
    (s.windowReport r x).csnHigh = s.csnHigh ∧ (s.windowReport r x).loader = s.loader ∧
    (s.windowReport r x).line = s.line ∧ (s.windowReport r x).queue = s.queue ∧ (s.windowReport r
    x).ring = s.ring ∧ (s.windowReport r x).table = s.table ∧ (s.windowReport r x).engine =
    s.engine ∧ (s.windowReport r x).grant = s.grant ∧ (s.windowReport r x).station = s.station ∧
    (s.windowReport r x).port = s.port ∧ (s.windowReport r x).pending = s.pending := by
  unfold State.windowReport; (repeat' split) <;> simp

@[simp] theorem rebuild_frame :
    (s.rebuild).now = s.now ∧ (s.rebuild).resetLow = s.resetLow ∧ (s.rebuild).csnHigh = s.csnHigh
    ∧ (s.rebuild).loader = s.loader ∧ (s.rebuild).line = s.line ∧ (s.rebuild).queue = s.queue ∧
    (s.rebuild).grant = s.grant ∧ (s.rebuild).station = s.station ∧ (s.rebuild).port = s.port ∧
    (s.rebuild).events = s.events ∧ (s.rebuild).pending = s.pending := by
  simp [State.rebuild]

@[simp] theorem formAlone_frame :
    (s.formAlone).now = s.now ∧ (s.formAlone).resetLow = s.resetLow ∧ (s.formAlone).csnHigh =
    s.csnHigh ∧ (s.formAlone).loader = s.loader ∧ (s.formAlone).line = s.line ∧
    (s.formAlone).queue = s.queue ∧ (s.formAlone).grant = s.grant ∧ (s.formAlone).station =
    s.station ∧ (s.formAlone).port = s.port ∧ (s.formAlone).events = s.events ∧
    (s.formAlone).pending = s.pending := by
  simp [State.formAlone]

@[simp] theorem settleCommon_frame :
    (s.settleCommon).now = s.now ∧ (s.settleCommon).resetLow = s.resetLow ∧
    (s.settleCommon).csnHigh = s.csnHigh ∧ (s.settleCommon).loader = s.loader ∧
    (s.settleCommon).line = s.line ∧ (s.settleCommon).queue = s.queue ∧ (s.settleCommon).ring =
    s.ring ∧ (s.settleCommon).table = s.table ∧ (s.settleCommon).engine = s.engine ∧
    (s.settleCommon).grant = s.grant ∧ (s.settleCommon).port = s.port ∧ (s.settleCommon).pending =
    s.pending := by
  simp [State.settleCommon]

@[simp] theorem replaceCloseBeacon_frame :
    (s.replaceCloseBeacon).now = s.now ∧ (s.replaceCloseBeacon).resetLow = s.resetLow ∧
    (s.replaceCloseBeacon).csnHigh = s.csnHigh ∧ (s.replaceCloseBeacon).loader = s.loader ∧
    (s.replaceCloseBeacon).line = s.line ∧ (s.replaceCloseBeacon).ring = s.ring ∧
    (s.replaceCloseBeacon).table = s.table ∧ (s.replaceCloseBeacon).engine = s.engine ∧
    (s.replaceCloseBeacon).grant = s.grant ∧ (s.replaceCloseBeacon).recount = s.recount ∧
    (s.replaceCloseBeacon).station = s.station ∧ (s.replaceCloseBeacon).port = s.port ∧
    (s.replaceCloseBeacon).events = s.events ∧ (s.replaceCloseBeacon).pending = s.pending := by
  unfold State.replaceCloseBeacon; split <;> [skip; split] <;> simp

@[simp] theorem actOnSilence_frame :
    (s.actOnSilence).now = s.now ∧ (s.actOnSilence).resetLow = s.resetLow ∧
    (s.actOnSilence).csnHigh = s.csnHigh ∧ (s.actOnSilence).loader = s.loader ∧
    (s.actOnSilence).line = s.line ∧ (s.actOnSilence).port = s.port ∧ (s.actOnSilence).pending =
    s.pending := by
  unfold State.actOnSilence; split <;> simp

@[simp] theorem markSilentAtSettle_frame :
    (s.markSilentAtSettle).now = s.now ∧ (s.markSilentAtSettle).resetLow = s.resetLow ∧
    (s.markSilentAtSettle).csnHigh = s.csnHigh ∧ (s.markSilentAtSettle).loader = s.loader ∧
    (s.markSilentAtSettle).line = s.line ∧ (s.markSilentAtSettle).port = s.port ∧
    (s.markSilentAtSettle).pending = s.pending := by
  unfold State.markSilentAtSettle; split <;> simp

@[simp] theorem settle_frame :
    (s.settle).now = s.now ∧ (s.settle).resetLow = s.resetLow ∧ (s.settle).csnHigh = s.csnHigh ∧
    (s.settle).loader = s.loader ∧ (s.settle).line = s.line ∧ (s.settle).port = s.port ∧
    (s.settle).pending = s.pending := by
  simp [State.settle]

/-! ### Standing conditions -/

@[simp] theorem keep_frame (p : Payload) :
    (s.keep p).now = s.now ∧ (s.keep p).resetLow = s.resetLow ∧ (s.keep p).csnHigh = s.csnHigh ∧
    (s.keep p).loader = s.loader ∧ (s.keep p).line = s.line ∧ (s.keep p).ring = s.ring ∧ (s.keep
    p).table = s.table ∧ (s.keep p).engine = s.engine ∧ (s.keep p).grant = s.grant ∧ (s.keep
    p).recount = s.recount ∧ (s.keep p).station = s.station ∧ (s.keep p).port = s.port ∧ (s.keep
    p).events = s.events ∧ (s.keep p).pending = s.pending := by
  unfold State.keep; split <;> [skip; split] <;> simp

@[simp] theorem releaseAgent_frame :
    (s.releaseAgent).now = s.now ∧ (s.releaseAgent).resetLow = s.resetLow ∧
    (s.releaseAgent).csnHigh = s.csnHigh ∧ (s.releaseAgent).loader = s.loader ∧
    (s.releaseAgent).line = s.line ∧ (s.releaseAgent).ring = s.ring ∧ (s.releaseAgent).table =
    s.table ∧ (s.releaseAgent).engine = s.engine ∧ (s.releaseAgent).grant = s.grant ∧
    (s.releaseAgent).recount = s.recount ∧ (s.releaseAgent).station = s.station ∧
    (s.releaseAgent).port = s.port ∧ (s.releaseAgent).events = s.events ∧ (s.releaseAgent).pending
    = s.pending := by
  unfold State.releaseAgent; split <;> simp

@[simp] theorem slowAgent_frame :
    (s.slowAgent).now = s.now ∧ (s.slowAgent).resetLow = s.resetLow ∧ (s.slowAgent).csnHigh =
    s.csnHigh ∧ (s.slowAgent).loader = s.loader ∧ (s.slowAgent).line = s.line ∧
    (s.slowAgent).table = s.table ∧ (s.slowAgent).engine = s.engine ∧ (s.slowAgent).grant =
    s.grant ∧ (s.slowAgent).recount = s.recount ∧ (s.slowAgent).station = s.station ∧
    (s.slowAgent).port = s.port ∧ (s.slowAgent).events = s.events ∧ (s.slowAgent).pending =
    s.pending := by
  unfold State.slowAgent; (repeat' split) <;> simp

@[simp] theorem demandAgent_frame :
    (s.demandAgent).now = s.now ∧ (s.demandAgent).resetLow = s.resetLow ∧ (s.demandAgent).csnHigh
    = s.csnHigh ∧ (s.demandAgent).loader = s.loader ∧ (s.demandAgent).line = s.line ∧
    (s.demandAgent).ring = s.ring ∧ (s.demandAgent).table = s.table ∧ (s.demandAgent).engine =
    s.engine ∧ (s.demandAgent).grant = s.grant ∧ (s.demandAgent).recount = s.recount ∧
    (s.demandAgent).station = s.station ∧ (s.demandAgent).port = s.port ∧ (s.demandAgent).events =
    s.events ∧ (s.demandAgent).pending = s.pending := by
  unfold State.demandAgent; split <;> simp

@[simp] theorem clearAgent_frame :
    (s.clearAgent).now = s.now ∧ (s.clearAgent).resetLow = s.resetLow ∧ (s.clearAgent).csnHigh =
    s.csnHigh ∧ (s.clearAgent).loader = s.loader ∧ (s.clearAgent).line = s.line ∧
    (s.clearAgent).ring = s.ring ∧ (s.clearAgent).table = s.table ∧ (s.clearAgent).engine =
    s.engine ∧ (s.clearAgent).grant = s.grant ∧ (s.clearAgent).recount = s.recount ∧
    (s.clearAgent).station = s.station ∧ (s.clearAgent).port = s.port ∧ (s.clearAgent).events =
    s.events ∧ (s.clearAgent).pending = s.pending := by
  unfold State.clearAgent; (repeat' split) <;> simp

@[simp] theorem claimAgent_frame :
    (s.claimAgent).now = s.now ∧ (s.claimAgent).resetLow = s.resetLow ∧ (s.claimAgent).csnHigh =
    s.csnHigh ∧ (s.claimAgent).loader = s.loader ∧ (s.claimAgent).line = s.line ∧
    (s.claimAgent).ring = s.ring ∧ (s.claimAgent).table = s.table ∧ (s.claimAgent).engine =
    s.engine ∧ (s.claimAgent).grant = s.grant ∧ (s.claimAgent).recount = s.recount ∧
    (s.claimAgent).station = s.station ∧ (s.claimAgent).port = s.port ∧ (s.claimAgent).events =
    s.events ∧ (s.claimAgent).pending = s.pending := by
  unfold State.claimAgent; split <;> simp

@[simp] theorem lookAgain_frame :
    (s.lookAgain).now = s.now ∧ (s.lookAgain).resetLow = s.resetLow ∧ (s.lookAgain).csnHigh =
    s.csnHigh ∧ (s.lookAgain).loader = s.loader ∧ (s.lookAgain).line = s.line ∧
    (s.lookAgain).table = s.table ∧ (s.lookAgain).engine = s.engine ∧ (s.lookAgain).grant =
    s.grant ∧ (s.lookAgain).recount = s.recount ∧ (s.lookAgain).station = s.station ∧
    (s.lookAgain).port = s.port ∧ (s.lookAgain).events = s.events ∧ (s.lookAgain).pending =
    s.pending := by
  unfold State.lookAgain; split <;> simp

@[simp] theorem lookChanged_frame (b : State) :
    (s.lookChanged b).now = s.now ∧ (s.lookChanged b).resetLow = s.resetLow ∧ (s.lookChanged
    b).csnHigh = s.csnHigh ∧ (s.lookChanged b).loader = s.loader ∧ (s.lookChanged b).line = s.line
    ∧ (s.lookChanged b).ring = s.ring ∧ (s.lookChanged b).table = s.table ∧ (s.lookChanged
    b).engine = s.engine ∧ (s.lookChanged b).grant = s.grant ∧ (s.lookChanged b).recount =
    s.recount ∧ (s.lookChanged b).station = s.station ∧ (s.lookChanged b).port = s.port ∧
    (s.lookChanged b).events = s.events ∧ (s.lookChanged b).pending = s.pending := by
  simp only [State.lookChanged]; (repeat' split) <;> simp

@[simp] theorem releaseMet_frame (b : State) :
    (s.releaseMet b).now = s.now ∧ (s.releaseMet b).resetLow = s.resetLow ∧ (s.releaseMet
    b).csnHigh = s.csnHigh ∧ (s.releaseMet b).loader = s.loader ∧ (s.releaseMet b).line = s.line ∧
    (s.releaseMet b).ring = s.ring ∧ (s.releaseMet b).table = s.table ∧ (s.releaseMet b).engine =
    s.engine ∧ (s.releaseMet b).grant = s.grant ∧ (s.releaseMet b).recount = s.recount ∧
    (s.releaseMet b).station = s.station ∧ (s.releaseMet b).port = s.port ∧ (s.releaseMet
    b).events = s.events ∧ (s.releaseMet b).pending = s.pending := by
  unfold State.releaseMet; split <;> simp

@[simp] theorem demandMet_frame (b : State) :
    (s.demandMet b).now = s.now ∧ (s.demandMet b).resetLow = s.resetLow ∧ (s.demandMet b).csnHigh
    = s.csnHigh ∧ (s.demandMet b).loader = s.loader ∧ (s.demandMet b).line = s.line ∧ (s.demandMet
    b).ring = s.ring ∧ (s.demandMet b).table = s.table ∧ (s.demandMet b).engine = s.engine ∧
    (s.demandMet b).grant = s.grant ∧ (s.demandMet b).recount = s.recount ∧ (s.demandMet
    b).station = s.station ∧ (s.demandMet b).port = s.port ∧ (s.demandMet b).events = s.events ∧
    (s.demandMet b).pending = s.pending := by
  unfold State.demandMet; (repeat' split) <;> simp

@[simp] theorem lookAfter_frame (b : State) (freed : Bool) :
    (s.lookAfter b freed).now = s.now ∧ (s.lookAfter b freed).resetLow = s.resetLow ∧ (s.lookAfter
    b freed).csnHigh = s.csnHigh ∧ (s.lookAfter b freed).loader = s.loader ∧ (s.lookAfter b
    freed).line = s.line ∧ (s.lookAfter b freed).table = s.table ∧ (s.lookAfter b freed).engine =
    s.engine ∧ (s.lookAfter b freed).grant = s.grant ∧ (s.lookAfter b freed).recount = s.recount ∧
    (s.lookAfter b freed).station = s.station ∧ (s.lookAfter b freed).port = s.port ∧ (s.lookAfter
    b freed).events = s.events ∧ (s.lookAfter b freed).pending = s.pending := by
  simp only [State.lookAfter]; (repeat' split) <;> simp

/-! ### Arrival and the line -/

@[simp] theorem honourSlow_frame :
    (s.honourSlow).now = s.now ∧ (s.honourSlow).resetLow = s.resetLow ∧ (s.honourSlow).csnHigh =
    s.csnHigh ∧ (s.honourSlow).loader = s.loader ∧ (s.honourSlow).line = s.line ∧
    (s.honourSlow).queue = s.queue ∧ (s.honourSlow).table = s.table ∧ (s.honourSlow).engine =
    s.engine ∧ (s.honourSlow).grant = s.grant ∧ (s.honourSlow).recount = s.recount ∧
    (s.honourSlow).station = s.station ∧ (s.honourSlow).port = s.port ∧ (s.honourSlow).events =
    s.events ∧ (s.honourSlow).pending = s.pending := by
  simp [State.honourSlow]

@[simp] theorem watch_frame (f : Frame) (b : Bool) :
    (s.watch f b).now = s.now ∧ (s.watch f b).resetLow = s.resetLow ∧ (s.watch f b).csnHigh =
    s.csnHigh ∧ (s.watch f b).loader = s.loader ∧ (s.watch f b).line = s.line ∧ (s.watch f b).port
    = s.port ∧ (s.watch f b).pending = s.pending := by
  unfold State.watch; split <;> simp

@[simp] theorem store_frame (f : Frame) (b : Bool) :
    (s.store f b).now = s.now ∧ (s.store f b).resetLow = s.resetLow ∧ (s.store f b).csnHigh =
    s.csnHigh ∧ (s.store f b).loader = s.loader ∧ (s.store f b).line = s.line ∧ (s.store f
    b).table = s.table ∧ (s.store f b).engine = s.engine ∧ (s.store f b).grant = s.grant ∧
    (s.store f b).recount = s.recount ∧ (s.store f b).station = s.station ∧ (s.store f b).port =
    s.port ∧ (s.store f b).events = s.events ∧ (s.store f b).pending = s.pending := by
  simp [State.store]

@[simp] theorem droppedRecount_frame (f : Frame) (b : Bool) :
    (s.droppedRecount f b).now = s.now ∧ (s.droppedRecount f b).resetLow = s.resetLow ∧
    (s.droppedRecount f b).csnHigh = s.csnHigh ∧ (s.droppedRecount f b).loader = s.loader ∧
    (s.droppedRecount f b).line = s.line ∧ (s.droppedRecount f b).queue = s.queue ∧
    (s.droppedRecount f b).ring = s.ring ∧ (s.droppedRecount f b).table = s.table ∧
    (s.droppedRecount f b).engine = s.engine ∧ (s.droppedRecount f b).grant = s.grant ∧
    (s.droppedRecount f b).station = s.station ∧ (s.droppedRecount f b).port = s.port ∧
    (s.droppedRecount f b).events = s.events ∧ (s.droppedRecount f b).pending = s.pending := by
  unfold State.droppedRecount; split <;> simp

@[simp] theorem lostCause_frame :
    (s.lostCause).now = s.now ∧ (s.lostCause).resetLow = s.resetLow ∧ (s.lostCause).csnHigh =
    s.csnHigh ∧ (s.lostCause).loader = s.loader ∧ (s.lostCause).line = s.line ∧ (s.lostCause).ring
    = s.ring ∧ (s.lostCause).table = s.table ∧ (s.lostCause).engine = s.engine ∧
    (s.lostCause).grant = s.grant ∧ (s.lostCause).station = s.station ∧ (s.lostCause).port =
    s.port ∧ (s.lostCause).events = s.events ∧ (s.lostCause).pending = s.pending := by
  unfold State.lostCause; split <;> simp

@[simp] theorem drop_frame (f : Frame) (b : Bool) :
    (s.drop f b).now = s.now ∧ (s.drop f b).resetLow = s.resetLow ∧ (s.drop f b).csnHigh =
    s.csnHigh ∧ (s.drop f b).loader = s.loader ∧ (s.drop f b).line = s.line ∧ (s.drop f b).table =
    s.table ∧ (s.drop f b).engine = s.engine ∧ (s.drop f b).grant = s.grant ∧ (s.drop f b).station
    = s.station ∧ (s.drop f b).port = s.port ∧ (s.drop f b).pending = s.pending := by
  simp [State.drop]

@[simp] theorem offer_frame (f : Frame) (b : Bool) :
    (s.offer f b).now = s.now ∧ (s.offer f b).resetLow = s.resetLow ∧ (s.offer f b).csnHigh =
    s.csnHigh ∧ (s.offer f b).loader = s.loader ∧ (s.offer f b).line = s.line ∧ (s.offer f b).port
    = s.port ∧ (s.offer f b).pending = s.pending := by
  unfold State.offer; split <;> [skip; split] <;> simp

@[simp] theorem handOn_frame (f : Frame) (b : Bool) :
    (s.handOn f b).now = s.now ∧ (s.handOn f b).resetLow = s.resetLow ∧ (s.handOn f b).csnHigh =
    s.csnHigh ∧ (s.handOn f b).loader = s.loader ∧ (s.handOn f b).line = s.line ∧ (s.handOn f
    b).port = s.port ∧ (s.handOn f b).pending = s.pending := by
  unfold State.handOn; (repeat' split) <;> simp

@[simp] theorem reject_frame :
    (s.reject).now = s.now ∧ (s.reject).resetLow = s.resetLow ∧ (s.reject).csnHigh = s.csnHigh ∧
    (s.reject).loader = s.loader ∧ (s.reject).line = s.line ∧ (s.reject).ring = s.ring ∧
    (s.reject).engine = s.engine ∧ (s.reject).grant = s.grant ∧ (s.reject).recount = s.recount ∧
    (s.reject).station = s.station ∧ (s.reject).port = s.port ∧ (s.reject).pending = s.pending := by
  simp [State.reject]

@[simp] theorem lineBecomes_frame (x : LineState) (t : Tx) :
    (s.lineBecomes x t).now = s.now ∧ (s.lineBecomes x t).resetLow = s.resetLow ∧ (s.lineBecomes x
    t).csnHigh = s.csnHigh ∧ (s.lineBecomes x t).loader = s.loader ∧ (s.lineBecomes x t).queue =
    s.queue ∧ (s.lineBecomes x t).ring = s.ring ∧ (s.lineBecomes x t).table = s.table ∧
    (s.lineBecomes x t).engine = s.engine ∧ (s.lineBecomes x t).grant = s.grant ∧ (s.lineBecomes x
    t).recount = s.recount ∧ (s.lineBecomes x t).station = s.station ∧ (s.lineBecomes x t).port =
    s.port ∧ (s.lineBecomes x t).events = s.events ∧ (s.lineBecomes x t).pending = s.pending := by
  simp [State.lineBecomes]

@[simp] theorem beginActivity_frame :
    (s.beginActivity).now = s.now ∧ (s.beginActivity).resetLow = s.resetLow ∧
    (s.beginActivity).csnHigh = s.csnHigh ∧ (s.beginActivity).loader = s.loader ∧
    (s.beginActivity).ring = s.ring ∧ (s.beginActivity).table = s.table ∧ (s.beginActivity).engine
    = s.engine ∧ (s.beginActivity).grant = s.grant ∧ (s.beginActivity).recount = s.recount ∧
    (s.beginActivity).station = s.station ∧ (s.beginActivity).port = s.port ∧
    (s.beginActivity).events = s.events ∧ (s.beginActivity).pending = s.pending := by
  simp [State.beginActivity]

@[simp] theorem ensureActivity_frame :
    (s.ensureActivity).now = s.now ∧ (s.ensureActivity).resetLow = s.resetLow ∧
    (s.ensureActivity).csnHigh = s.csnHigh ∧ (s.ensureActivity).loader = s.loader ∧
    (s.ensureActivity).ring = s.ring ∧ (s.ensureActivity).table = s.table ∧
    (s.ensureActivity).engine = s.engine ∧ (s.ensureActivity).grant = s.grant ∧
    (s.ensureActivity).recount = s.recount ∧ (s.ensureActivity).station = s.station ∧
    (s.ensureActivity).port = s.port ∧ (s.ensureActivity).events = s.events ∧
    (s.ensureActivity).pending = s.pending := by
  unfold State.ensureActivity; split <;> simp

@[simp] theorem freeOnLine_frame (sl : Slot) :
    (s.freeOnLine sl).now = s.now ∧ (s.freeOnLine sl).resetLow = s.resetLow ∧ (s.freeOnLine
    sl).csnHigh = s.csnHigh ∧ (s.freeOnLine sl).loader = s.loader ∧ (s.freeOnLine sl).line =
    s.line ∧ (s.freeOnLine sl).ring = s.ring ∧ (s.freeOnLine sl).table = s.table ∧ (s.freeOnLine
    sl).engine = s.engine ∧ (s.freeOnLine sl).grant = s.grant ∧ (s.freeOnLine sl).recount =
    s.recount ∧ (s.freeOnLine sl).station = s.station ∧ (s.freeOnLine sl).port = s.port ∧
    (s.freeOnLine sl).events = s.events ∧ (s.freeOnLine sl).pending = s.pending := by
  unfold State.freeOnLine; split <;> simp

@[simp] theorem enterFault_frame :
    (s.enterFault).now = s.now ∧ (s.enterFault).resetLow = s.resetLow ∧ (s.enterFault).csnHigh =
    s.csnHigh ∧ (s.enterFault).loader = s.loader ∧ (s.enterFault).line = s.line ∧
    (s.enterFault).queue = s.queue ∧ (s.enterFault).ring = s.ring ∧ (s.enterFault).table = s.table
    ∧ (s.enterFault).engine = s.engine ∧ (s.enterFault).grant = s.grant ∧ (s.enterFault).recount =
    s.recount ∧ (s.enterFault).port = s.port ∧ (s.enterFault).pending = s.pending := by
  simp [State.enterFault]

@[simp] theorem holdRecord_frame (r : ConfigRecord) :
    (s.holdRecord r).now = s.now ∧ (s.holdRecord r).resetLow = s.resetLow ∧ (s.holdRecord
    r).csnHigh = s.csnHigh ∧ (s.holdRecord r).line = s.line ∧ (s.holdRecord r).queue = s.queue ∧
    (s.holdRecord r).ring = s.ring ∧ (s.holdRecord r).table = s.table ∧ (s.holdRecord r).engine =
    s.engine ∧ (s.holdRecord r).grant = s.grant ∧ (s.holdRecord r).recount = s.recount ∧
    (s.holdRecord r).station = s.station ∧ (s.holdRecord r).port = s.port ∧ (s.holdRecord
    r).events = s.events ∧ (s.holdRecord r).pending = s.pending := by
  simp [State.holdRecord]

@[simp] theorem judgeRecord_frame (r : ConfigRecord) :
    (s.judgeRecord r).now = s.now ∧ (s.judgeRecord r).resetLow = s.resetLow ∧ (s.judgeRecord
    r).csnHigh = s.csnHigh ∧ (s.judgeRecord r).port = s.port ∧ (s.judgeRecord r).pending =
    s.pending := by
  unfold State.judgeRecord; split <;> simp

@[simp] theorem attemptFails_frame :
    (s.attemptFails).now = s.now ∧ (s.attemptFails).resetLow = s.resetLow ∧
    (s.attemptFails).csnHigh = s.csnHigh ∧ (s.attemptFails).line = s.line ∧ (s.attemptFails).queue
    = s.queue ∧ (s.attemptFails).ring = s.ring ∧ (s.attemptFails).table = s.table ∧
    (s.attemptFails).engine = s.engine ∧ (s.attemptFails).grant = s.grant ∧
    (s.attemptFails).recount = s.recount ∧ (s.attemptFails).port = s.port ∧
    (s.attemptFails).pending = s.pending := by
  unfold State.attemptFails; split <;> simp

@[simp] theorem answer_frame (n : Nat) (st : Status) (d : List Byte) :
    (s.answer n st d).now = s.now ∧ (s.answer n st d).resetLow = s.resetLow ∧ (s.answer n st
    d).csnHigh = s.csnHigh ∧ (s.answer n st d).loader = s.loader ∧ (s.answer n st d).line = s.line
    ∧ (s.answer n st d).queue = s.queue ∧ (s.answer n st d).ring = s.ring ∧ (s.answer n st
    d).table = s.table ∧ (s.answer n st d).engine = s.engine ∧ (s.answer n st d).grant = s.grant ∧
    (s.answer n st d).recount = s.recount ∧ (s.answer n st d).station = s.station ∧ (s.answer n st
    d).events = s.events ∧ (s.answer n st d).pending = s.pending := by
  simp [State.answer]

@[simp] theorem demandSet_frame (v : Nat) :
    (s.demandSet v).now = s.now ∧ (s.demandSet v).resetLow = s.resetLow ∧ (s.demandSet v).csnHigh
    = s.csnHigh ∧ (s.demandSet v).loader = s.loader ∧ (s.demandSet v).line = s.line ∧ (s.demandSet
    v).table = s.table ∧ (s.demandSet v).engine = s.engine ∧ (s.demandSet v).recount = s.recount ∧
    (s.demandSet v).port = s.port ∧ (s.demandSet v).pending = s.pending := by
  unfold State.demandSet; split <;> simp

@[simp] theorem confirmed_frame (v : Nat) :
    (s.confirmed v).now = s.now ∧ (s.confirmed v).resetLow = s.resetLow ∧ (s.confirmed v).csnHigh
    = s.csnHigh ∧ (s.confirmed v).loader = s.loader ∧ (s.confirmed v).line = s.line ∧ (s.confirmed
    v).table = s.table ∧ (s.confirmed v).engine = s.engine ∧ (s.confirmed v).recount = s.recount ∧
    (s.confirmed v).port = s.port ∧ (s.confirmed v).pending = s.pending := by
  simp [State.confirmed]

@[simp] theorem cutoffCleared_frame :
    (s.cutoffCleared).now = s.now ∧ (s.cutoffCleared).resetLow = s.resetLow ∧
    (s.cutoffCleared).csnHigh = s.csnHigh ∧ (s.cutoffCleared).loader = s.loader ∧
    (s.cutoffCleared).line = s.line ∧ (s.cutoffCleared).table = s.table ∧ (s.cutoffCleared).engine
    = s.engine ∧ (s.cutoffCleared).recount = s.recount ∧ (s.cutoffCleared).station = s.station ∧
    (s.cutoffCleared).port = s.port ∧ (s.cutoffCleared).events = s.events ∧
    (s.cutoffCleared).pending = s.pending := by
  simp [State.cutoffCleared]

@[simp] theorem startSlot_frame (sl : Slot) :
    (s.startSlot sl).now = s.now ∧ (s.startSlot sl).resetLow = s.resetLow ∧ (s.startSlot
    sl).csnHigh = s.csnHigh ∧ (s.startSlot sl).loader = s.loader ∧ (s.startSlot sl).ring = s.ring
    ∧ (s.startSlot sl).table = s.table ∧ (s.startSlot sl).engine = s.engine ∧ (s.startSlot
    sl).grant = s.grant ∧ (s.startSlot sl).recount = s.recount ∧ (s.startSlot sl).station =
    s.station ∧ (s.startSlot sl).port = s.port ∧ (s.startSlot sl).events = s.events ∧ (s.startSlot
    sl).pending = s.pending := by
  simp [State.startSlot]

@[simp] theorem startAt_frame (t : Time) :
    (s.startAt t).resetLow = s.resetLow ∧ (s.startAt t).csnHigh = s.csnHigh ∧ (s.startAt t).loader
    = s.loader ∧ (s.startAt t).ring = s.ring ∧ (s.startAt t).table = s.table ∧ (s.startAt
    t).engine = s.engine ∧ (s.startAt t).grant = s.grant ∧ (s.startAt t).recount = s.recount ∧
    (s.startAt t).station = s.station ∧ (s.startAt t).port = s.port ∧ (s.startAt t).events =
    s.events ∧ (s.startAt t).pending = s.pending := by
  unfold State.startAt; split <;> simp

@[simp] theorem backOff_frame (sl : Slot) :
    (s.backOff sl).now = s.now ∧ (s.backOff sl).resetLow = s.resetLow ∧ (s.backOff sl).csnHigh =
    s.csnHigh ∧ (s.backOff sl).loader = s.loader ∧ (s.backOff sl).ring = s.ring ∧ (s.backOff
    sl).table = s.table ∧ (s.backOff sl).engine = s.engine ∧ (s.backOff sl).grant = s.grant ∧
    (s.backOff sl).recount = s.recount ∧ (s.backOff sl).station = s.station ∧ (s.backOff sl).port
    = s.port ∧ (s.backOff sl).events = s.events ∧ (s.backOff sl).pending = s.pending := by
  simp [State.backOff]

@[simp] theorem recountAbandoned_frame (sl : Slot) :
    (s.recountAbandoned sl).now = s.now ∧ (s.recountAbandoned sl).resetLow = s.resetLow ∧
    (s.recountAbandoned sl).csnHigh = s.csnHigh ∧ (s.recountAbandoned sl).loader = s.loader ∧
    (s.recountAbandoned sl).line = s.line ∧ (s.recountAbandoned sl).ring = s.ring ∧
    (s.recountAbandoned sl).table = s.table ∧ (s.recountAbandoned sl).engine = s.engine ∧
    (s.recountAbandoned sl).grant = s.grant ∧ (s.recountAbandoned sl).station = s.station ∧
    (s.recountAbandoned sl).port = s.port ∧ (s.recountAbandoned sl).events = s.events ∧
    (s.recountAbandoned sl).pending = s.pending := by
  unfold State.recountAbandoned; split <;> [skip; split] <;> simp

@[simp] theorem countAbandonment_frame :
    (s.countAbandonment).now = s.now ∧ (s.countAbandonment).resetLow = s.resetLow ∧
    (s.countAbandonment).csnHigh = s.csnHigh ∧ (s.countAbandonment).loader = s.loader ∧
    (s.countAbandonment).line = s.line ∧ (s.countAbandonment).port = s.port ∧
    (s.countAbandonment).pending = s.pending := by
  unfold State.countAbandonment; (repeat' split) <;> simp

@[simp] theorem abandon_frame (sl : Slot) :
    (s.abandon sl).now = s.now ∧ (s.abandon sl).resetLow = s.resetLow ∧ (s.abandon sl).csnHigh =
    s.csnHigh ∧ (s.abandon sl).loader = s.loader ∧ (s.abandon sl).line = s.line ∧ (s.abandon
    sl).port = s.port ∧ (s.abandon sl).pending = s.pending := by
  simp [State.abandon]

@[simp] theorem jamOutcome_frame (sl : Slot) :
    (s.jamOutcome sl).now = s.now ∧ (s.jamOutcome sl).resetLow = s.resetLow ∧ (s.jamOutcome
    sl).csnHigh = s.csnHigh ∧ (s.jamOutcome sl).loader = s.loader ∧ (s.jamOutcome sl).port =
    s.port ∧ (s.jamOutcome sl).pending = s.pending := by
  unfold State.jamOutcome; (repeat' split) <;> simp

@[simp] theorem reportJam_frame :
    (s.reportJam).now = s.now ∧ (s.reportJam).resetLow = s.resetLow ∧ (s.reportJam).csnHigh =
    s.csnHigh ∧ (s.reportJam).loader = s.loader ∧ (s.reportJam).port = s.port ∧
    (s.reportJam).pending = s.pending := by
  unfold State.reportJam; split <;> simp

@[simp] theorem beaconRestarted_frame :
    (s.beaconRestarted).now = s.now ∧ (s.beaconRestarted).resetLow = s.resetLow ∧
    (s.beaconRestarted).csnHigh = s.csnHigh ∧ (s.beaconRestarted).loader = s.loader ∧
    (s.beaconRestarted).line = s.line ∧ (s.beaconRestarted).queue = s.queue ∧
    (s.beaconRestarted).ring = s.ring ∧ (s.beaconRestarted).table = s.table ∧
    (s.beaconRestarted).engine = s.engine ∧ (s.beaconRestarted).grant = s.grant ∧
    (s.beaconRestarted).recount = s.recount ∧ (s.beaconRestarted).port = s.port ∧
    (s.beaconRestarted).events = s.events ∧ (s.beaconRestarted).pending = s.pending := by
  simp [State.beaconRestarted]

@[simp] theorem slowCompleted_frame :
    (s.slowCompleted).now = s.now ∧ (s.slowCompleted).resetLow = s.resetLow ∧
    (s.slowCompleted).csnHigh = s.csnHigh ∧ (s.slowCompleted).loader = s.loader ∧
    (s.slowCompleted).line = s.line ∧ (s.slowCompleted).queue = s.queue ∧ (s.slowCompleted).table
    = s.table ∧ (s.slowCompleted).engine = s.engine ∧ (s.slowCompleted).grant = s.grant ∧
    (s.slowCompleted).recount = s.recount ∧ (s.slowCompleted).station = s.station ∧
    (s.slowCompleted).port = s.port ∧ (s.slowCompleted).events = s.events ∧
    (s.slowCompleted).pending = s.pending := by
  unfold State.slowCompleted; split <;> simp

@[simp] theorem leaveCompleted_frame :
    (s.leaveCompleted).now = s.now ∧ (s.leaveCompleted).resetLow = s.resetLow ∧
    (s.leaveCompleted).csnHigh = s.csnHigh ∧ (s.leaveCompleted).loader = s.loader ∧
    (s.leaveCompleted).line = s.line ∧ (s.leaveCompleted).port = s.port ∧
    (s.leaveCompleted).events = s.events ∧ (s.leaveCompleted).pending = s.pending := by
  unfold State.leaveCompleted; split <;> simp

@[simp] theorem reportCompletion_frame (sl : Slot) :
    (s.reportCompletion sl).now = s.now ∧ (s.reportCompletion sl).resetLow = s.resetLow ∧
    (s.reportCompletion sl).csnHigh = s.csnHigh ∧ (s.reportCompletion sl).loader = s.loader ∧
    (s.reportCompletion sl).line = s.line ∧ (s.reportCompletion sl).port = s.port ∧
    (s.reportCompletion sl).events = s.events ∧ (s.reportCompletion sl).pending = s.pending := by
  unfold State.reportCompletion; (repeat' split) <;> simp

@[simp] theorem complete_frame (f : Frame) :
    (s.complete f).now = s.now ∧ (s.complete f).resetLow = s.resetLow ∧ (s.complete f).csnHigh =
    s.csnHigh ∧ (s.complete f).loader = s.loader ∧ (s.complete f).port = s.port ∧ (s.complete
    f).pending = s.pending := by
  unfold State.complete; dsimp only; split <;> simp

@[simp] theorem activityEnds_frame (n : Nat) :
    (s.activityEnds n).resetLow = s.resetLow ∧ (s.activityEnds n).csnHigh = s.csnHigh ∧
    (s.activityEnds n).loader = s.loader ∧ (s.activityEnds n).ring = s.ring ∧ (s.activityEnds
    n).table = s.table ∧ (s.activityEnds n).engine = s.engine ∧ (s.activityEnds n).grant = s.grant
    ∧ (s.activityEnds n).recount = s.recount ∧ (s.activityEnds n).station = s.station ∧
    (s.activityEnds n).port = s.port ∧ (s.activityEnds n).events = s.events ∧ (s.activityEnds
    n).pending = s.pending := by
  simp [State.activityEnds]

/-! ### The Table Unit -/

@[simp] theorem noteSender_frame (n : StationNo) :
    (s.noteSender n).now = s.now ∧ (s.noteSender n).resetLow = s.resetLow ∧ (s.noteSender
    n).csnHigh = s.csnHigh ∧ (s.noteSender n).loader = s.loader ∧ (s.noteSender n).line = s.line ∧
    (s.noteSender n).queue = s.queue ∧ (s.noteSender n).ring = s.ring ∧ (s.noteSender n).engine =
    s.engine ∧ (s.noteSender n).grant = s.grant ∧ (s.noteSender n).station = s.station ∧
    (s.noteSender n).port = s.port ∧ (s.noteSender n).events = s.events ∧ (s.noteSender n).pending
    = s.pending := by
  unfold State.noteSender; split <;> [skip; split] <;> simp

@[simp] theorem noteEpochs_frame (f : Frame) :
    (s.noteEpochs f).now = s.now ∧ (s.noteEpochs f).resetLow = s.resetLow ∧ (s.noteEpochs
    f).csnHigh = s.csnHigh ∧ (s.noteEpochs f).loader = s.loader ∧ (s.noteEpochs f).line = s.line ∧
    (s.noteEpochs f).queue = s.queue ∧ (s.noteEpochs f).ring = s.ring ∧ (s.noteEpochs f).table =
    s.table ∧ (s.noteEpochs f).engine = s.engine ∧ (s.noteEpochs f).grant = s.grant ∧
    (s.noteEpochs f).station = s.station ∧ (s.noteEpochs f).port = s.port ∧ (s.noteEpochs
    f).events = s.events ∧ (s.noteEpochs f).pending = s.pending := by
  unfold State.noteEpochs; split <;> simp

@[simp] theorem noteHeard_frame (n : StationNo) :
    (s.noteHeard n).now = s.now ∧ (s.noteHeard n).resetLow = s.resetLow ∧ (s.noteHeard n).csnHigh
    = s.csnHigh ∧ (s.noteHeard n).loader = s.loader ∧ (s.noteHeard n).line = s.line ∧ (s.noteHeard
    n).queue = s.queue ∧ (s.noteHeard n).ring = s.ring ∧ (s.noteHeard n).table = s.table ∧
    (s.noteHeard n).engine = s.engine ∧ (s.noteHeard n).grant = s.grant ∧ (s.noteHeard n).recount
    = s.recount ∧ (s.noteHeard n).port = s.port ∧ (s.noteHeard n).events = s.events ∧ (s.noteHeard
    n).pending = s.pending := by
  unfold State.noteHeard; split <;> simp

@[simp] theorem nextTsn_frame :
    (s.nextTsn).now = s.now ∧ (s.nextTsn).resetLow = s.resetLow ∧ (s.nextTsn).csnHigh = s.csnHigh
    ∧ (s.nextTsn).loader = s.loader ∧ (s.nextTsn).line = s.line ∧ (s.nextTsn).queue = s.queue ∧
    (s.nextTsn).ring = s.ring ∧ (s.nextTsn).engine = s.engine ∧ (s.nextTsn).grant = s.grant ∧
    (s.nextTsn).recount = s.recount ∧ (s.nextTsn).station = s.station ∧ (s.nextTsn).port = s.port
    ∧ (s.nextTsn).events = s.events ∧ (s.nextTsn).pending = s.pending := by
  simp [State.nextTsn]

@[simp] theorem applyDemand_frame (n : StationNo) (v : Nat) :
    (s.applyDemand n v).now = s.now ∧ (s.applyDemand n v).resetLow = s.resetLow ∧ (s.applyDemand n
    v).csnHigh = s.csnHigh ∧ (s.applyDemand n v).loader = s.loader ∧ (s.applyDemand n v).line =
    s.line ∧ (s.applyDemand n v).queue = s.queue ∧ (s.applyDemand n v).ring = s.ring ∧
    (s.applyDemand n v).grant = s.grant ∧ (s.applyDemand n v).recount = s.recount ∧ (s.applyDemand
    n v).station = s.station ∧ (s.applyDemand n v).port = s.port ∧ (s.applyDemand n v).events =
    s.events ∧ (s.applyDemand n v).pending = s.pending := by
  simp [State.applyDemand]

@[simp] theorem applyClaim_frame (n : StationNo) (a : Nat) :
    (s.applyClaim n a).now = s.now ∧ (s.applyClaim n a).resetLow = s.resetLow ∧ (s.applyClaim n
    a).csnHigh = s.csnHigh ∧ (s.applyClaim n a).loader = s.loader ∧ (s.applyClaim n a).line =
    s.line ∧ (s.applyClaim n a).ring = s.ring ∧ (s.applyClaim n a).engine = s.engine ∧
    (s.applyClaim n a).recount = s.recount ∧ (s.applyClaim n a).station = s.station ∧
    (s.applyClaim n a).port = s.port ∧ (s.applyClaim n a).pending = s.pending := by
  unfold State.applyClaim; split <;> simp

@[simp] theorem applyRelease_frame (n : StationNo) (v : Nat) :
    (s.applyRelease n v).now = s.now ∧ (s.applyRelease n v).resetLow = s.resetLow ∧
    (s.applyRelease n v).csnHigh = s.csnHigh ∧ (s.applyRelease n v).loader = s.loader ∧
    (s.applyRelease n v).line = s.line ∧ (s.applyRelease n v).ring = s.ring ∧ (s.applyRelease n
    v).engine = s.engine ∧ (s.applyRelease n v).recount = s.recount ∧ (s.applyRelease n v).station
    = s.station ∧ (s.applyRelease n v).port = s.port ∧ (s.applyRelease n v).pending = s.pending := by
  simp [State.applyRelease]

@[simp] theorem withdrawClear_frame (n : StationNo) :
    (s.withdrawClear n).now = s.now ∧ (s.withdrawClear n).resetLow = s.resetLow ∧ (s.withdrawClear
    n).csnHigh = s.csnHigh ∧ (s.withdrawClear n).loader = s.loader ∧ (s.withdrawClear n).line =
    s.line ∧ (s.withdrawClear n).ring = s.ring ∧ (s.withdrawClear n).table = s.table ∧
    (s.withdrawClear n).engine = s.engine ∧ (s.withdrawClear n).grant = s.grant ∧ (s.withdrawClear
    n).recount = s.recount ∧ (s.withdrawClear n).station = s.station ∧ (s.withdrawClear n).port =
    s.port ∧ (s.withdrawClear n).events = s.events ∧ (s.withdrawClear n).pending = s.pending := by
  simp [State.withdrawClear]

@[simp] theorem applyClear_frame (n : StationNo) :
    (s.applyClear n).now = s.now ∧ (s.applyClear n).resetLow = s.resetLow ∧ (s.applyClear
    n).csnHigh = s.csnHigh ∧ (s.applyClear n).loader = s.loader ∧ (s.applyClear n).line = s.line ∧
    (s.applyClear n).ring = s.ring ∧ (s.applyClear n).recount = s.recount ∧ (s.applyClear
    n).station = s.station ∧ (s.applyClear n).port = s.port ∧ (s.applyClear n).pending = s.pending := by
  unfold State.applyClear; split <;> simp

@[simp] theorem mismatch_frame :
    (s.mismatch).now = s.now ∧ (s.mismatch).resetLow = s.resetLow ∧ (s.mismatch).csnHigh =
    s.csnHigh ∧ (s.mismatch).loader = s.loader ∧ (s.mismatch).line = s.line ∧ (s.mismatch).ring =
    s.ring ∧ (s.mismatch).engine = s.engine ∧ (s.mismatch).grant = s.grant ∧ (s.mismatch).station
    = s.station ∧ (s.mismatch).port = s.port ∧ (s.mismatch).pending = s.pending := by
  simp [State.mismatch]

@[simp] theorem clearSuspect_frame (n : StationNo) :
    (s.clearSuspect n).now = s.now ∧ (s.clearSuspect n).resetLow = s.resetLow ∧ (s.clearSuspect
    n).csnHigh = s.csnHigh ∧ (s.clearSuspect n).loader = s.loader ∧ (s.clearSuspect n).line =
    s.line ∧ (s.clearSuspect n).queue = s.queue ∧ (s.clearSuspect n).ring = s.ring ∧
    (s.clearSuspect n).engine = s.engine ∧ (s.clearSuspect n).grant = s.grant ∧ (s.clearSuspect
    n).recount = s.recount ∧ (s.clearSuspect n).station = s.station ∧ (s.clearSuspect n).port =
    s.port ∧ (s.clearSuspect n).events = s.events ∧ (s.clearSuspect n).pending = s.pending := by
  unfold State.clearSuspect; split <;> simp

@[simp] theorem compareEntry_frame (n : StationNo) (g d : Half) :
    (s.compareEntry n g d).now = s.now ∧ (s.compareEntry n g d).resetLow = s.resetLow ∧
    (s.compareEntry n g d).csnHigh = s.csnHigh ∧ (s.compareEntry n g d).loader = s.loader ∧
    (s.compareEntry n g d).line = s.line ∧ (s.compareEntry n g d).ring = s.ring ∧ (s.compareEntry
    n g d).engine = s.engine ∧ (s.compareEntry n g d).grant = s.grant ∧ (s.compareEntry n g
    d).station = s.station ∧ (s.compareEntry n g d).port = s.port ∧ (s.compareEntry n g d).pending
    = s.pending := by
  unfold State.compareEntry; split <;> [skip; split] <;> simp

@[simp] theorem compareRoster_frame (n : StationNo) (v : BitVec 32) :
    (s.compareRoster n v).now = s.now ∧ (s.compareRoster n v).resetLow = s.resetLow ∧
    (s.compareRoster n v).csnHigh = s.csnHigh ∧ (s.compareRoster n v).loader = s.loader ∧
    (s.compareRoster n v).line = s.line ∧ (s.compareRoster n v).port = s.port ∧ (s.compareRoster n
    v).pending = s.pending := by
  unfold State.compareRoster; dsimp only; (repeat' split) <;> simp

@[simp] theorem passed_frame (n : StationNo) (b : Body) :
    (s.passed n b).now = s.now ∧ (s.passed n b).resetLow = s.resetLow ∧ (s.passed n b).csnHigh =
    s.csnHigh ∧ (s.passed n b).loader = s.loader ∧ (s.passed n b).line = s.line ∧ (s.passed n
    b).port = s.port ∧ (s.passed n b).pending = s.pending := by
  unfold State.passed; (repeat' split) <;> simp

@[simp] theorem compare_frame (f : Frame) :
    (s.compare f).now = s.now ∧ (s.compare f).resetLow = s.resetLow ∧ (s.compare f).csnHigh =
    s.csnHigh ∧ (s.compare f).loader = s.loader ∧ (s.compare f).line = s.line ∧ (s.compare f).port
    = s.port ∧ (s.compare f).pending = s.pending := by
  unfold State.compare; (repeat' split) <;> simp

@[simp] theorem judgeReport_frame (n : StationNo) (x : Half) :
    (s.judgeReport n x).now = s.now ∧ (s.judgeReport n x).resetLow = s.resetLow ∧ (s.judgeReport n
    x).csnHigh = s.csnHigh ∧ (s.judgeReport n x).loader = s.loader ∧ (s.judgeReport n x).line =
    s.line ∧ (s.judgeReport n x).ring = s.ring ∧ (s.judgeReport n x).table = s.table ∧
    (s.judgeReport n x).engine = s.engine ∧ (s.judgeReport n x).grant = s.grant ∧ (s.judgeReport n
    x).station = s.station ∧ (s.judgeReport n x).port = s.port ∧ (s.judgeReport n x).pending =
    s.pending := by
  unfold State.judgeReport; (repeat' split) <;> simp

@[simp] theorem strangeBeacon_frame (x : Half) :
    (s.strangeBeacon x).now = s.now ∧ (s.strangeBeacon x).resetLow = s.resetLow ∧ (s.strangeBeacon
    x).csnHigh = s.csnHigh ∧ (s.strangeBeacon x).loader = s.loader ∧ (s.strangeBeacon x).line =
    s.line ∧ (s.strangeBeacon x).ring = s.ring ∧ (s.strangeBeacon x).table = s.table ∧
    (s.strangeBeacon x).engine = s.engine ∧ (s.strangeBeacon x).grant = s.grant ∧ (s.strangeBeacon
    x).station = s.station ∧ (s.strangeBeacon x).port = s.port ∧ (s.strangeBeacon x).events =
    s.events ∧ (s.strangeBeacon x).pending = s.pending := by
  unfold State.strangeBeacon; (repeat' split) <;> simp

@[simp] theorem judge_frame (f : Frame) :
    (s.judge f).now = s.now ∧ (s.judge f).resetLow = s.resetLow ∧ (s.judge f).csnHigh = s.csnHigh
    ∧ (s.judge f).loader = s.loader ∧ (s.judge f).line = s.line ∧ (s.judge f).port = s.port ∧
    (s.judge f).pending = s.pending := by
  unfold State.judge; cases f.body <;> simp <;> split <;> simp

@[simp] theorem judgeInWindow_frame (f : Frame) :
    (s.judgeInWindow f).now = s.now ∧ (s.judgeInWindow f).resetLow = s.resetLow ∧ (s.judgeInWindow
    f).csnHigh = s.csnHigh ∧ (s.judgeInWindow f).loader = s.loader ∧ (s.judgeInWindow f).line =
    s.line ∧ (s.judgeInWindow f).queue = s.queue ∧ (s.judgeInWindow f).ring = s.ring ∧
    (s.judgeInWindow f).table = s.table ∧ (s.judgeInWindow f).engine = s.engine ∧ (s.judgeInWindow
    f).grant = s.grant ∧ (s.judgeInWindow f).station = s.station ∧ (s.judgeInWindow f).port =
    s.port ∧ (s.judgeInWindow f).pending = s.pending := by
  unfold State.judgeInWindow; cases f.body <;> simp

@[simp] theorem dispose_frame (f : Frame) (b : Bool) :
    (s.dispose f b).now = s.now ∧ (s.dispose f b).resetLow = s.resetLow ∧ (s.dispose f b).csnHigh
    = s.csnHigh ∧ (s.dispose f b).loader = s.loader ∧ (s.dispose f b).line = s.line ∧ (s.dispose f
    b).port = s.port ∧ (s.dispose f b).pending = s.pending := by
  unfold State.dispose; (repeat' split) <;> simp

@[simp] theorem process_frame (f : Frame) (b : Bool) :
    (s.process f b).now = s.now ∧ (s.process f b).resetLow = s.resetLow ∧ (s.process f b).csnHigh
    = s.csnHigh ∧ (s.process f b).loader = s.loader ∧ (s.process f b).line = s.line ∧ (s.process f
    b).port = s.port ∧ (s.process f b).pending = s.pending := by
  unfold State.process; (repeat' split) <;> simp

@[simp] theorem standingLost_frame :
    (s.standingLost).now = s.now ∧ (s.standingLost).resetLow = s.resetLow ∧
    (s.standingLost).csnHigh = s.csnHigh ∧ (s.standingLost).loader = s.loader ∧
    (s.standingLost).line = s.line ∧ (s.standingLost).ring = s.ring ∧ (s.standingLost).table =
    s.table ∧ (s.standingLost).engine = s.engine ∧ (s.standingLost).grant = s.grant ∧
    (s.standingLost).station = s.station ∧ (s.standingLost).port = s.port ∧
    (s.standingLost).events = s.events ∧ (s.standingLost).pending = s.pending := by
  unfold State.standingLost; split <;> simp

@[simp] theorem closeEnd_frame :
    (s.closeEnd).now = s.now ∧ (s.closeEnd).resetLow = s.resetLow ∧ (s.closeEnd).csnHigh =
    s.csnHigh ∧ (s.closeEnd).loader = s.loader ∧ (s.closeEnd).line = s.line ∧ (s.closeEnd).port =
    s.port ∧ (s.closeEnd).pending = s.pending := by
  unfold State.closeEnd; dsimp only; (repeat' split) <;> simp

@[simp] theorem loneEnd_frame :
    (s.loneEnd).now = s.now ∧ (s.loneEnd).resetLow = s.resetLow ∧ (s.loneEnd).csnHigh = s.csnHigh
    ∧ (s.loneEnd).loader = s.loader ∧ (s.loneEnd).line = s.line ∧ (s.loneEnd).port = s.port ∧
    (s.loneEnd).pending = s.pending := by
  simp [State.loneEnd]

@[simp] theorem runEnds_frame (w : RunWork) :
    (s.runEnds w).now = s.now ∧ (s.runEnds w).resetLow = s.resetLow ∧ (s.runEnds w).csnHigh =
    s.csnHigh ∧ (s.runEnds w).loader = s.loader ∧ (s.runEnds w).line = s.line ∧ (s.runEnds w).port
    = s.port ∧ (s.runEnds w).pending = s.pending := by
  unfold State.runEnds; split <;> simp

@[simp] theorem beginClose_frame :
    (s.beginClose).now = s.now ∧ (s.beginClose).resetLow = s.resetLow ∧ (s.beginClose).csnHigh =
    s.csnHigh ∧ (s.beginClose).loader = s.loader ∧ (s.beginClose).line = s.line ∧
    (s.beginClose).port = s.port ∧ (s.beginClose).pending = s.pending := by
  unfold State.beginClose; split <;> simp

@[simp] theorem decideListening_frame :
    (s.decideListening).now = s.now ∧ (s.decideListening).resetLow = s.resetLow ∧
    (s.decideListening).csnHigh = s.csnHigh ∧ (s.decideListening).loader = s.loader ∧
    (s.decideListening).line = s.line ∧ (s.decideListening).port = s.port ∧
    (s.decideListening).pending = s.pending := by
  unfold State.decideListening; split <;> simp

/-! ### Timers -/

@[simp] theorem windowEnds_frame :
    (s.windowEnds).now = s.now ∧ (s.windowEnds).resetLow = s.resetLow ∧ (s.windowEnds).csnHigh =
    s.csnHigh ∧ (s.windowEnds).loader = s.loader ∧ (s.windowEnds).line = s.line ∧
    (s.windowEnds).queue = s.queue ∧ (s.windowEnds).ring = s.ring ∧ (s.windowEnds).table = s.table
    ∧ (s.windowEnds).engine = s.engine ∧ (s.windowEnds).grant = s.grant ∧ (s.windowEnds).station =
    s.station ∧ (s.windowEnds).port = s.port ∧ (s.windowEnds).events = s.events ∧
    (s.windowEnds).pending = s.pending := by
  simp [State.windowEnds]

@[simp] theorem guardEnds_frame :
    (s.guardEnds).now = s.now ∧ (s.guardEnds).resetLow = s.resetLow ∧ (s.guardEnds).csnHigh =
    s.csnHigh ∧ (s.guardEnds).loader = s.loader ∧ (s.guardEnds).line = s.line ∧ (s.guardEnds).ring
    = s.ring ∧ (s.guardEnds).table = s.table ∧ (s.guardEnds).engine = s.engine ∧
    (s.guardEnds).grant = s.grant ∧ (s.guardEnds).station = s.station ∧ (s.guardEnds).port =
    s.port ∧ (s.guardEnds).events = s.events ∧ (s.guardEnds).pending = s.pending := by
  unfold State.guardEnds; split <;> simp

@[simp] theorem beaconEnds_frame :
    (s.beaconEnds).now = s.now ∧ (s.beaconEnds).resetLow = s.resetLow ∧ (s.beaconEnds).csnHigh =
    s.csnHigh ∧ (s.beaconEnds).loader = s.loader ∧ (s.beaconEnds).line = s.line ∧
    (s.beaconEnds).ring = s.ring ∧ (s.beaconEnds).table = s.table ∧ (s.beaconEnds).engine =
    s.engine ∧ (s.beaconEnds).grant = s.grant ∧ (s.beaconEnds).recount = s.recount ∧
    (s.beaconEnds).port = s.port ∧ (s.beaconEnds).events = s.events ∧ (s.beaconEnds).pending =
    s.pending := by
  unfold State.beaconEnds; dsimp only; split <;> simp

@[simp] theorem markSilent_frame (n : StationNo) :
    (s.markSilent n).now = s.now ∧ (s.markSilent n).resetLow = s.resetLow ∧ (s.markSilent
    n).csnHigh = s.csnHigh ∧ (s.markSilent n).loader = s.loader ∧ (s.markSilent n).line = s.line ∧
    (s.markSilent n).port = s.port ∧ (s.markSilent n).pending = s.pending := by
  simp [State.markSilent]

@[simp] theorem slowEnds_frame :
    (s.slowEnds).now = s.now ∧ (s.slowEnds).resetLow = s.resetLow ∧ (s.slowEnds).csnHigh =
    s.csnHigh ∧ (s.slowEnds).loader = s.loader ∧ (s.slowEnds).line = s.line ∧ (s.slowEnds).table =
    s.table ∧ (s.slowEnds).engine = s.engine ∧ (s.slowEnds).grant = s.grant ∧ (s.slowEnds).recount
    = s.recount ∧ (s.slowEnds).station = s.station ∧ (s.slowEnds).port = s.port ∧
    (s.slowEnds).events = s.events ∧ (s.slowEnds).pending = s.pending := by
  unfold State.slowEnds; split <;> simp

end Sys2Proof.Machine
end

