-- ==== Sys2Proof/Laws/Effects.lean ====
section
/-! SUPPORT. What the shared operations do to the blocks they write: the parts of Grant Control they keep,
the station state, the ring's frames, the event flags, and who stands in the Transmit Queue. -/

namespace Sys2Proof.Machine

variable (s : State)

/-! ### What the operations of Grant Control keep of A, H, CUTOFF and claim back-off -/

@[simp] theorem clearLower_values :
    (s.clearLower).grant.applied = s.grant.applied ∧ (s.clearLower).grant.demand = s.grant.demand ∧
    (s.clearLower).grant.cutoff = s.grant.cutoff ∧ (s.clearLower).grant.backoff = s.grant.backoff ∧
    (s.clearLower).grant.seen = s.grant.seen ∧ (s.clearLower).grant.lower = none := by
  simp [State.clearLower]

@[simp] theorem satisfyLower_values :
    (s.satisfyLower).grant.applied = s.grant.applied ∧
    (s.satisfyLower).grant.demand = s.grant.demand ∧
    (s.satisfyLower).grant.cutoff = s.grant.cutoff ∧
    (s.satisfyLower).grant.backoff = s.grant.backoff ∧
    (s.satisfyLower).grant.seen = s.grant.seen := by
  unfold State.satisfyLower; (repeat' split) <;> simp

@[simp] theorem createLower_values (c : LowerCause) (n : Nat) :
    (s.createLower c n).grant.applied = s.grant.applied ∧
    (s.createLower c n).grant.demand = s.grant.demand ∧
    (s.createLower c n).grant.cutoff = s.grant.cutoff ∧
    (s.createLower c n).grant.backoff = s.grant.backoff ∧
    (s.createLower c n).grant.seen = s.grant.seen ∧
    (s.createLower c n).grant.lower = some ⟨c, n, s.now + ms s.tYield⟩ := by
  simp [State.createLower, State.after]

@[simp] theorem recheckYield_values (r : LowerRequest) :
    (s.recheckYield r).grant.applied = s.grant.applied ∧
    (s.recheckYield r).grant.demand = s.grant.demand ∧
    (s.recheckYield r).grant.cutoff = s.grant.cutoff ∧
    (s.recheckYield r).grant.backoff = s.grant.backoff ∧
    (s.recheckYield r).grant.seen = s.grant.seen := by
  unfold State.recheckYield; (repeat' split) <;> simp

@[simp] theorem lookYield_values :
    (s.lookYield).grant.applied = s.grant.applied ∧ (s.lookYield).grant.demand = s.grant.demand ∧
    (s.lookYield).grant.cutoff = s.grant.cutoff ∧ (s.lookYield).grant.backoff = s.grant.backoff ∧
    (s.lookYield).grant.seen = s.grant.seen := by
  unfold State.lookYield; (repeat' split) <;> simp

/-- Outside MEMBER, and in phase WINDOW, the YIELD need is not looked at (R59). -/
theorem lookYield_of_not_working (h : ¬ s.working) : s.lookYield = s := if_neg h

@[simp] theorem isolateLower_values :
    (s.isolateLower).grant.applied = s.grant.applied ∧
    (s.isolateLower).grant.demand = s.grant.demand ∧
    (s.isolateLower).grant.cutoff = s.grant.cutoff ∧
    (s.isolateLower).grant.backoff = s.grant.backoff := by
  unfold State.isolateLower; (repeat' split) <;> simp

@[simp] theorem lowerApplied_values (v : Nat) :
    (s.lowerApplied v).grant.applied = v ∧ (s.lowerApplied v).grant.demand = s.grant.demand ∧
    (s.lowerApplied v).grant.cutoff = s.grant.cutoff ∧
    (s.lowerApplied v).grant.backoff = s.grant.backoff ∧
    (s.lowerApplied v).grant.seen = s.grant.seen := by
  simp [State.lowerApplied]

@[simp] theorem cutOff_grant :
    (s.cutOff).grant = { s.grant with cutoff := true, applied := 0, lower := none } := by
  simp [State.cutOff]

@[simp] theorem noticeChanged_values :
    (s.noticeChanged).grant.applied = s.grant.applied ∧
    (s.noticeChanged).grant.demand = s.grant.demand ∧
    (s.noticeChanged).grant.cutoff = s.grant.cutoff ∧
    (s.noticeChanged).grant.lower = s.grant.lower ∧
    (s.noticeChanged).grant.backoff = s.grant.backoff ∧
    (s.noticeChanged).grant.seen = s.noticeNow ∧
    (s.noticeChanged).grant.sharedDemand = s.dOwn := by
  simp [State.noticeChanged]

@[simp] theorem clearBackoff_values :
    (s.clearBackoff).grant.applied = s.grant.applied ∧
    (s.clearBackoff).grant.demand = s.grant.demand ∧
    (s.clearBackoff).grant.cutoff = s.grant.cutoff ∧
    (s.clearBackoff).grant.lower = s.grant.lower ∧ (s.clearBackoff).grant.backoff = false ∧
    (s.clearBackoff).grant.seen = s.grant.seen := by
  simp [State.clearBackoff]

@[simp] theorem giveNotices_values (b : Bool) :
    (s.giveNotices b).grant.applied = s.grant.applied ∧
    (s.giveNotices b).grant.demand = s.grant.demand ∧
    (s.giveNotices b).grant.cutoff = s.grant.cutoff ∧
    (s.giveNotices b).grant.backoff = (if b = true then false else s.grant.backoff) := by
  unfold State.giveNotices; (repeat' split) <;> simp_all

/-- The applied grant after an own CLAIM (R53). -/
theorem ownClaimApplied_applied (inc a : Nat) :
    (s.ownClaimApplied inc a).grant.applied =
      min (if s.grant.cutoff then s.grant.applied else s.grant.applied + inc) s.grant.demand := by
  simp only [State.ownClaimApplied]
  (repeat' split) <;> simp_all

/-- The rest of Grant Control after an own CLAIM (R53). -/
@[simp] theorem ownClaimApplied_values (inc a : Nat) :
    (s.ownClaimApplied inc a).grant.demand = s.grant.demand ∧
    (s.ownClaimApplied inc a).grant.cutoff = s.grant.cutoff ∧
    (s.ownClaimApplied inc a).grant.seen = s.grant.seen ∧
    (s.ownClaimApplied inc a).grant.backoff = (if inc < a then true else s.grant.backoff) := by
  simp only [State.ownClaimApplied]
  (repeat' split) <;> simp_all

/-! ### The recorded demand that claims go by (R50) -/

@[simp] theorem clearLower_sharedDemand : (s.clearLower).grant.sharedDemand = s.grant.sharedDemand := rfl

@[simp] theorem satisfyLower_sharedDemand :
    (s.satisfyLower).grant.sharedDemand = s.grant.sharedDemand := by
  unfold State.satisfyLower; (repeat' split) <;> simp

@[simp] theorem createLower_sharedDemand (c : LowerCause) (n : Nat) :
    (s.createLower c n).grant.sharedDemand = s.grant.sharedDemand := by simp [State.createLower]

@[simp] theorem recheckYield_sharedDemand (r : LowerRequest) :
    (s.recheckYield r).grant.sharedDemand = s.grant.sharedDemand := by
  unfold State.recheckYield; (repeat' split) <;> simp

@[simp] theorem lookYield_sharedDemand : (s.lookYield).grant.sharedDemand = s.grant.sharedDemand := by
  unfold State.lookYield; (repeat' split) <;> simp

@[simp] theorem lowerApplied_sharedDemand (v : Nat) :
    (s.lowerApplied v).grant.sharedDemand = s.grant.sharedDemand := by simp [State.lowerApplied]

@[simp] theorem isolateLower_sharedDemand :
    (s.isolateLower).grant.sharedDemand = s.grant.sharedDemand := by
  unfold State.isolateLower; (repeat' split) <;> simp

@[simp] theorem ownClaimApplied_sharedDemand (inc a : Nat) :
    (s.ownClaimApplied inc a).grant.sharedDemand = s.grant.sharedDemand := by
  simp only [State.ownClaimApplied]; (repeat' split) <;> simp

/-- The notice that clears claim back-off brings the demand now recorded. -/
@[simp] theorem giveNotices_sharedDemand :
    (s.giveNotices true).grant.sharedDemand = s.dOwn := by
  simp [State.giveNotices, State.dOwn, State.ownMember?, State.own]

/-- No claim is aimed past the demand from which the entitlements last heard were computed. -/
theorem claimTarget_le_sharedDemand : s.claimTarget ≤ s.grant.sharedDemand := by
  unfold State.claimTarget State.claimDemand
  split <;> omega

/-! ### The station state -/

@[simp] theorem noticeZero_station :
    (s.noticeZero).station.state = s.station.state ∧
    (s.noticeZero).station.listenTimer = s.station.listenTimer ∧
    (s.noticeZero).station.listenWaiting = s.station.listenWaiting := by
  unfold State.noticeZero; split <;> simp

/-- Outside ISOLATED a notice that A is 0 changes nothing (R111). -/
theorem noticeZero_of_not_isolated (h : s.station.state ≠ .isolated) : s.noticeZero = s := by
  simp [State.noticeZero, h]

@[simp] theorem lowerApplied_station (v : Nat) :
    (s.lowerApplied v).station.state = s.station.state := by
  simp [State.lowerApplied]

@[simp] theorem cutOff_station : (s.cutOff).station.state = s.station.state := by
  simp [State.cutOff]

@[simp] theorem enter_station (x : StationState) :
    (s.enter x).station = { Station.reset with state := x } := rfl

@[simp] theorem enterListen_station :
    (s.enterListen).station =
      { Station.reset with state := .listen, listenTimer := some (s.now + ms s.tListen) } := rfl

@[simp] theorem enterIsolated_state : (s.enterIsolated).station.state = .isolated := by
  simp [State.enterIsolated]

@[simp] theorem enterBarred_station :
    (s.enterBarred).station = { Station.reset with state := .barred } := by
  simp [State.enterBarred]

@[simp] theorem enterMember_state : (s.enterMember).station.state = .member := by
  simp [State.enterMember, Station.entered]

/-! ### The ring -/

@[simp] theorem slowAgent_ring :
    (s.slowAgent).ring.entries = s.ring.entries ∧ (s.slowAgent).ring.lost = s.ring.lost ∧
    (s.slowAgent).ring.deferral = s.ring.deferral ∧
    (s.slowAgent).ring.slowTimer = s.ring.slowTimer := by
  unfold State.slowAgent; (repeat' split) <;> simp [State.enqueue]

@[simp] theorem lookAgain_ring :
    (s.lookAgain).ring.entries = s.ring.entries ∧ (s.lookAgain).ring.lost = s.ring.lost ∧
    (s.lookAgain).ring.deferral = s.ring.deferral ∧
    (s.lookAgain).ring.slowTimer = s.ring.slowTimer := by
  unfold State.lookAgain; split <;> simp

@[simp] theorem lookFlow_ring :
    (s.lookFlow).ring.entries = s.ring.entries ∧ (s.lookFlow).ring.lost = s.ring.lost ∧
    (s.lookFlow).ring.deferral = s.ring.deferral ∧
    (s.lookFlow).ring.slowTimer = s.ring.slowTimer := by
  unfold State.lookFlow; split <;> simp [State.enqueue]

@[simp] theorem store_ring (f : Frame) (own : Bool) :
    (s.store f own).ring.entries = s.ring.entries ++ [⟨f, own⟩] ∧
    (s.store f own).ring.lost = s.ring.lost ∧
    (s.store f own).ring.deferral = s.ring.deferral := by
  simp [State.store]

/-- Outside MEMBER no standing condition is looked at (R154). -/
theorem lookAgain_of_not_member (h : s.station.state ≠ .member) : s.lookAgain = s := if_neg h

@[simp] theorem lookAfter_ring (b : State) (freed : Bool) :
    (s.lookAfter b freed).ring.entries = s.ring.entries ∧
    (s.lookAfter b freed).ring.lost = s.ring.lost ∧
    (s.lookAfter b freed).ring.deferral = s.ring.deferral ∧
    (s.lookAfter b freed).ring.slowTimer = s.ring.slowTimer := by
  simp only [State.lookAfter]; (repeat' split) <;> simp

/-! ### When the standing conditions are looked at (R154) -/

/-- Outside MEMBER no standing condition is looked at (R154). -/
theorem lookAfter_of_not_member (b : State) (freed : Bool) (h : s.station.state ≠ .member) :
    s.lookAfter b freed = s := if_neg h

/-- No DEMAND or RELEASE is withdrawn while the host's values and the own entry stay (R56, R57). -/
theorem met_of_unchanged (b : State) (hA : s.grant.applied = b.grant.applied)
    (hH : s.grant.demand = b.grant.demand) (hg : s.gOwn = b.gOwn) (hd : s.dOwn = b.dOwn) :
    (s.releaseMet b).demandMet b = s := by
  have h1 : s.releaseMet b = s := by
    unfold State.releaseMet; rw [hA, hg]; exact if_neg fun h => by omega
  rw [h1]
  unfold State.demandMet; rw [hH, hd]
  exact if_neg fun h => h.1 h.2

/-- A freed slot lets every block look again (R154). -/
theorem lookAfter_freed (b : State) (hA : s.grant.applied = b.grant.applied)
    (hH : s.grant.demand = b.grant.demand) (hg : s.gOwn = b.gOwn) (hd : s.dOwn = b.dOwn) :
    s.lookAfter b true = s.lookAgain := by
  unfold State.lookAfter
  rw [met_of_unchanged s b hA hH hg hd]
  by_cases h : s.station.state = .member
  · simp [h]
  · simp [h, lookAgain_of_not_member]

/-- With no slot freed and no item changed nothing is asked for (R154). -/
theorem lookAfter_unchanged (b : State) (hr : s.releaseItems = b.releaseItems)
    (hd : s.demandItems = b.demandItems) (hc : s.clearItems = b.clearItems)
    (hm : s.claimItems = b.claimItems) (hf : ¬ s.freedSince b) : s.lookAfter b false = s := by
  have hA : s.grant.applied = b.grant.applied := congrArg (fun x => x.2.1) hr
  have hg : s.gOwn = b.gOwn := congrArg (fun x => x.2.2) hr
  have hH : s.grant.demand = b.grant.demand := congrArg (fun x => x.2.1) hd
  have hD : s.dOwn = b.dOwn := congrArg (fun x => x.2.2) hd
  have hl : s.lookChanged b = s := by simp [State.lookChanged, hr, hd, hc, hm]
  have hs : (s.freedSince s) → s.lookAgain = s := by
    intro h
    exfalso
    simp only [State.freedSince, List.any_eq_true, Bool.and_eq_true, Option.isNone_iff_eq_none, slotOf,
      List.find?_eq_none] at h
    obtain ⟨sl, hm, _, h2⟩ := h
    simpa using h2 sl hm
  unfold State.lookAfter
  rw [met_of_unchanged s b hA hH hg hD]
  simp only [hl, hf, or_false, Bool.false_eq_true, if_false]
  split
  · split
    · exact hs ‹_›
    · rfl
  · rfl

/-! ### The state-entry clear -/

@[simp] theorem enter_blocks (x : StationState) :
    (s.enter x).table = s.table.cleared ∧ (s.enter x).engine = Engine.reset ∧
    (s.enter x).recount = Recount.reset ∧ (s.enter x).ring = s.ring.cleared ∧
    (s.enter x).queue = flush s.queue ∧
    (s.enter x).grant =
      { s.grant with backoff := false, seen := Notice.reset, sharedDemand := 0 } := by
  refine ⟨rfl, rfl, rfl, rfl, rfl, rfl⟩

/-- A flush leaves only the ON_LINE slot, finishing (R153). -/
theorem flush_slots {q : List Slot} {sl : Slot} (h : sl ∈ flush q) :
    sl.state = .onLine ∧ sl.finishing = true ∧ sl.flushed = true ∧ sl.followOn = none := by
  simp only [flush, List.mem_map, List.mem_filter] at h
  obtain ⟨o, ⟨_, ho⟩, rfl⟩ := h
  exact ⟨by simpa using ho, rfl, rfl, rfl⟩

/-! ### Pending causes (R74) -/

/-- A cause that is pending already changes nothing. -/
theorem addPending_of_pending {c : Cause} (h : s.recount.causes.add c = s.recount.causes) :
    s.addPending c = s := if_pos h

/-- A cause that enters the pending causes withdraws a waiting CLAIM. -/
theorem addPending_of_new {c : Cause} (h : s.recount.causes.add c ≠ s.recount.causes) :
    s.addPending c =
      (s.withRecount { s.recount with causes := s.recount.causes.add c }).withdrawWaiting .claim := if_neg h

/-! ### The conditions of R147, R50 and R51, as the statements write them -/

theorem eligible_iff_allows (p : Payload) : s.eligible p = true ↔ s.allows p := by
  cases p with
  | beacon close => cases close <;> simp [State.eligible, State.allows, and_assoc]
  | _ => simp [State.eligible, State.allows, and_assoc]

theorem claimTarget_eq_aim : s.claimTarget = s.aim := by
  unfold State.claimTarget State.claimDemand State.aim State.othersStarved
  simp only [ne_eq, List.filter_eq_nil_iff, bne_iff_ne, not_forall, not_not]
  congr 1
  simp

/-- A slot of kind `k` is held just when some slot of the queue has that kind. -/
theorem holds_iff (k : Kind) : s.holds k ↔ ∃ sl ∈ s.queue, sl.kind = k := by
  simp [State.holds, slotOf, List.find?_isSome]

theorem mayClaim_iff_claims : s.mayClaim ↔ s.claims := by
  unfold State.mayClaim State.claims
  rw [claimTarget_eq_aim, holds_iff]
  have inRing : ¬ s.claimInRing ↔ ∀ e ∈ s.ring.entries, e.own = true → e.frame.kind ≠ .claim := by
    simp only [State.claimInRing, List.any_eq_true, Bool.and_eq_true, not_exists, not_and]
    refine forall_congr' fun e => forall_congr' fun _ => forall_congr' fun _ => ?_
    unfold Frame.kind
    cases e.frame.body <;> simp [Body.kind]
  rw [inRing]
  simp only [State.settled, State.free, PendingCauses.empty, not_exists, not_and]
  tauto

@[simp] theorem mem_stations (n : StationNo) : n ∈ stations := by revert n; decide

/-- A snapshot taken now holds what R29 lists. -/
theorem snapshotNow_copiedTo : s.copiedTo s.snapshotNow := by
  refine ⟨by simp [State.snapshotNow], fun n => ?_, rfl, rfl, fun n => ?_, fun n => ?_, rfl, rfl, rfl, rfl, rfl, rfl⟩
  · have : s.snapshotNow.entries.getD n.val .absent = (s.table.entryAt n).view s.now := by
      simp only [State.snapshotNow, Table.entryAt, List.getD_eq_getElem?_getD, List.getElem?_map]
      cases s.table.entries[n.val]? <;> rfl
    rw [this]
    match s.table.entryAt n with
    | .absent => rfl
    | .member m => rfl
    | .ghost ⟨g, none⟩ => rfl
    | .ghost ⟨g, some ends⟩ => rfl
  · simp only [State.snapshotNow, Table.roster, List.mem_filter, Table.isMember, Table.member?]
    cases s.table.entryAt n <;> simp
  · simp only [State.snapshotNow, Table.ghosts, List.mem_filter, Table.isGhost, Table.ghost?]
    cases s.table.entryAt n <;> simp

/-! ### The entry of a sender, and a run's start -/

/-- An entry written over the one that stands there; a table too short for it keeps none (R1). -/
theorem setEntry_entryAt (t : Table) (n k : StationNo) (e : Entry) :
    (t.setEntry n e).entryAt k =
      if n = k ∧ n.val < t.entries.length then e else t.entryAt k := by
  simp only [Table.setEntry, Table.entryAt, List.getD_eq_getElem?_getD, List.getElem?_set, Fin.val_inj]
  by_cases h : n = k
  · subst h
    by_cases hl : n.val < t.entries.length <;> simp [hl]
  · simp [h]

/-- A frame of a station that is no member leaves the table alone (R2, R12). -/
theorem noteSender_table_of_no_member {n : StationNo} (h : s.table.isMember n = false) :
    (s.noteSender n).table = s.table := by
  simp only [State.noteSender, h, Bool.false_eq_true, if_false]
  split <;> rfl

/-- Taking a frame of station `n` touches no entry but for its age and silent flag (R2). -/
theorem noteSender_onlyHeard (n : StationNo) : s.onlyHeard (s.noteSender n) n := by
  intro k
  cases hn : s.table.entryAt n with
  | member m =>
    have hl : n.val < s.table.entries.length := by
      by_contra h
      simp [Table.entryAt, List.getD_eq_getElem?_getD, h] at hn
    simp only [State.noteSender, Table.isMember, Table.member?, Table.updateMember, hn, Option.isSome_some,
      if_true, withTable_table, setEntry_entryAt, hl, and_true]
    by_cases hk : k = n
    · subst hk; simp [hn, Member.heardAt]
    · rw [if_neg fun h => hk h.symm]
      cases s.table.entryAt k <;> simp [hk]
  | _ =>
    rw [noteSender_table_of_no_member s (by simp [Table.isMember, Table.member?, hn])]
    by_cases hk : k = n
    · subst hk; rw [hn]
    · simp only [hk, if_false]
      cases s.table.entryAt k <;> rfl

/-- A run just started works on the table as it stands (R32, R33). -/
theorem startRun_run (work : RunWork) :
    ∃ r, (s.startRun work).engine.run = some r ∧ (s.startRun work).runReads r ∧ r.work = work ∧
      r.started = s.now := ⟨_, rfl, ⟨rfl, rfl, rfl, rfl, rfl⟩, rfl, rfl⟩

end Sys2Proof.Machine
end

