-- ==== Sys2Proof/Laws/Engine.lean ====
section
/-! SUPPORT. What the passes of the Share Engine come to: who is left in S and with what, how many passes there
are, and how long they take. -/

namespace Sys2Proof.Machine

/-! ### Sums over S -/

@[simp] theorem totalWeight_nil : totalWeight [] = 0 := rfl
@[simp] theorem totalWeight_cons (i : Sharer) (l : List Sharer) :
    totalWeight (i :: l) = i.weight + totalWeight l := rfl
@[simp] theorem totalDemand_nil : totalDemand [] = 0 := rfl
@[simp] theorem totalDemand_cons (i : Sharer) (l : List Sharer) :
    totalDemand (i :: l) = i.demand + totalDemand l := rfl

theorem totalDemand_append (l k : List Sharer) : totalDemand (l ++ k) = totalDemand l + totalDemand k := by
  induction l with
  | nil => simp
  | cons i l ih => simp [ih, Nat.add_assoc]

theorem totalWeight_split (p : Sharer → Bool) (l : List Sharer) :
    totalWeight l = totalWeight (l.filter p) + totalWeight (l.filter fun i => !p i) := by
  induction l with
  | nil => rfl
  | cons i l ih => by_cases h : p i = true <;> simp [h, ih] <;> omega

/-- S is not empty, so W is above 0 (R34). -/
theorem totalWeight_pos {l : List Sharer} (h : l ≠ []) (hw : ∀ i ∈ l, 1 ≤ i.weight) : 0 < totalWeight l := by
  cases l with
  | nil => exact absurd rfl h
  | cons i l => have := hw i (by simp); simp; omega

/-- A demand within its part (R35), as products. -/
theorem le_part_iff {d r t w : Nat} (h : 0 < t) : d ≤ part r t w ↔ d * t ≤ r * w := by
  unfold part; exact Nat.le_div_iff_mul_le h

/-- The demands capped in a pass are within their share of the remaining budget (R35). -/
theorem totalDemand_capped {r t : Nat} (h : 0 < t) {l : List Sharer}
    (hl : ∀ i ∈ l, i.demand ≤ part r t i.weight) : totalDemand l * t ≤ r * totalWeight l := by
  induction l with
  | nil => simp
  | cons i l ih =>
    have h1 := (le_part_iff h).1 (hl i (by simp))
    have h2 := ih fun j hj => hl j (by simp [hj])
    simp only [totalDemand_cons, totalWeight_cons, Nat.add_mul, Nat.mul_add]
    omega

/-! ### The passes (R34 to R37) -/

/-- What the passes come to: the members capped, those left in S, and the budget that remains for these. -/
theorem runPasses_found (rotor : Nat) : ∀ (fuel : Nat) (share : List Sharer) (remaining : Nat)
    (found : List (StationNo × Nat)) (passes duration : Nat), share.length ≤ fuel →
    (∀ i ∈ share, 1 ≤ i.weight) →
    ∃ (capped left : List Sharer) (rest : Nat), (capped ++ left).Perm share ∧
      rest + totalDemand capped = remaining ∧
      (runPasses rotor fuel share remaining found passes duration).found =
        found ++ capped.map (fun i => (i.station, i.demand)) ++ finalShare rotor rest left ∧
      (∀ i ∈ left, part rest (totalWeight left) i.weight < i.demand) ∧
      (left ≠ [] → remaining * totalWeight left ≤ rest * totalWeight share ∧
        ∀ i ∈ capped, i.demand ≤ part rest (totalWeight left) i.weight) := by
  intro fuel
  induction fuel with
  | zero =>
    intro share remaining found passes duration hl _
    have : share = [] := List.length_eq_zero_iff.1 (Nat.le_zero.1 hl)
    subst this
    exact ⟨[], [], remaining, .refl _, rfl, by simp [runPasses, finalShare], by simp, by simp⟩
  | succ fuel ih =>
    intro share remaining found passes duration hl hw
    by_cases h0 : share = []
    · subst h0
      exact ⟨[], [], remaining, .refl _, rfl, by simp [runPasses, finalShare], by simp, by simp⟩
    have hW : 0 < totalWeight share := totalWeight_pos h0 hw
    generalize hp : Sharer.capped remaining (totalWeight share) = p
    by_cases h1 : share.filter p = []
    · refine ⟨[], share, remaining, .refl _, rfl, ?_, fun i hi => ?_, fun _ => ⟨le_refl _, by simp⟩⟩
      · simp [runPasses, h0, hp, h1]
      · have := List.filter_eq_nil_iff.1 h1 i hi
        rw [← hp] at this
        simpa [Sharer.capped] using this
    · have hc : ∀ i ∈ share.filter p, i.demand ≤ part remaining (totalWeight share) i.weight := by
        intro i hi
        have := (List.mem_filter.1 hi).2
        rw [← hp] at this
        simpa [Sharer.capped] using this
      have hD := totalDemand_capped hW hc
      have hS := totalWeight_split p share
      have hR : totalDemand (share.filter p) ≤ remaining := by
        by_contra h
        have h2 : remaining * totalWeight (share.filter p) ≤ remaining * totalWeight share :=
          Nat.mul_le_mul_left _ (by omega)
        have h3 : (remaining + 1) * totalWeight share ≤
            totalDemand (share.filter p) * totalWeight share := Nat.mul_le_mul_right _ (by omega)
        rw [Nat.add_mul] at h3
        omega
      have hlen : (share.filter fun i => !p i).length ≤ fuel := by
        have a := (List.filter_append_perm p share).length_eq
        have b : 0 < (share.filter p).length := List.length_pos_iff.2 h1
        simp only [List.length_append] at a
        omega
      obtain ⟨capped, left, rest, i1, i2, i3, i4, i5⟩ := ih (share.filter fun i => !p i)
        (remaining - totalDemand (share.filter p))
        (found ++ (share.filter p).map fun i => (i.station, i.demand)) (passes + 1)
        (duration + 3 + share.length) hlen fun i hi => hw i (List.mem_filter.1 hi).1
      refine ⟨share.filter p ++ capped, left, rest, ?_, ?_, ?_, i4, fun hn => ?_⟩
      · rw [List.append_assoc]
        exact (i1.append_left _).trans (List.filter_append_perm p share)
      · rw [totalDemand_append]; omega
      · simp only [runPasses, h0, hp, h1, if_false, i3, List.map_append, List.append_assoc]
      · obtain ⟨j1, j2⟩ := i5 hn
        have hw' : ∀ i ∈ left, 1 ≤ i.weight := fun i hi =>
          hw i (List.mem_filter.1 (i1.subset (List.mem_append_right _ hi))).1
        have hF : 0 < totalWeight left := totalWeight_pos hn hw'
        have hN : 0 < totalWeight (share.filter fun i => !p i) := by
          refine totalWeight_pos (fun e => ?_) fun i hi => hw i (List.mem_filter.1 hi).1
          rw [e] at i1
          exact hn (List.append_eq_nil_iff.1 i1.eq_nil).2
        generalize totalWeight (share.filter fun i => !p i) = W1 at *
        generalize totalWeight (share.filter p) = W2 at *
        generalize totalDemand (share.filter p) = D at *
        generalize totalWeight left = F at *
        generalize totalWeight share = W at *
        have key : remaining * F ≤ rest * W := by
          obtain ⟨r1, rfl⟩ := Nat.exists_eq_add_of_le hR
          simp only [Nat.add_sub_cancel_left] at j1
          subst hS
          have k1 : (D + r1) * W1 ≤ r1 * (W2 + W1) := by nlinarith
          have k2 : (D + r1) * F * W1 ≤ rest * (W2 + W1) * W1 := by
            calc (D + r1) * F * W1 = (D + r1) * W1 * F := by ring
              _ ≤ r1 * (W2 + W1) * F := Nat.mul_le_mul_right _ k1
              _ = r1 * F * (W2 + W1) := by ring
              _ ≤ rest * W1 * (W2 + W1) := Nat.mul_le_mul_right _ j1
              _ = rest * (W2 + W1) * W1 := by ring
          exact Nat.le_of_mul_le_mul_right k2 hN
        refine ⟨key, fun i hi => ?_⟩
        rcases List.mem_append.1 hi with hi | hi
        · have a := (le_part_iff hW).1 (hc i hi)
          refine (le_part_iff hF).2 (Nat.le_of_mul_le_mul_right ?_ hW)
          calc i.demand * F * W = i.demand * W * F := by ring
            _ ≤ remaining * i.weight * F := Nat.mul_le_mul_right _ a
            _ = remaining * F * i.weight := by ring
            _ ≤ rest * W * i.weight := Nat.mul_le_mul_right _ key
            _ = rest * i.weight * W := by ring
        · exact j2 i hi

/-- How many passes are made, and how long they take (R36, R42). -/
theorem runPasses_bounds (rotor : Nat) : ∀ (fuel : Nat) (share : List Sharer) (remaining : Nat)
    (found : List (StationNo × Nat)) (passes duration : Nat),
    (runPasses rotor fuel share remaining found passes duration).passes ≤ passes + share.length ∧
    duration ≤ (runPasses rotor fuel share remaining found passes duration).duration ∧
    2 * (runPasses rotor fuel share remaining found passes duration).duration ≤
      2 * duration + share.length * (share.length + 7) := by
  intro fuel
  induction fuel with
  | zero => intros; simp [runPasses]
  | succ fuel ih =>
    intro share remaining found passes duration
    simp only [runPasses]
    split
    · simp
    · rename_i h0
      have : 0 < share.length := List.length_pos_iff.2 h0
      split
      · refine ⟨by simp; omega, by simp; omega, ?_⟩
        simp only
        nlinarith
      · rename_i h1
        generalize Sharer.capped remaining (totalWeight share) = p at *
        have a := (List.filter_append_perm p share).length_eq
        have b : 0 < (share.filter p).length := List.length_pos_iff.2 h1
        simp only [List.length_append] at a
        obtain ⟨i1, i2, i3⟩ := ih (share.filter fun i => !p i)
          (remaining - totalDemand (share.filter p))
          (found ++ (share.filter p).map fun i => (i.station, i.demand)) (passes + 1)
          (duration + 3 + share.length)
        refine ⟨by omega, by omega, ?_⟩
        have : (share.filter fun i => !p i).length + 1 ≤ share.length := by omega
        nlinarith

/-! ### Rotor order (R37, 00_scope.md 4.1) -/

/-- The place of station `n` in rotor order from `rotor`. -/
def rotorPlace (rotor : Nat) (n : StationNo) : Nat := (n.val + 32 - rotor) % 32

theorem rotorOrder_pairwise : ∀ rotor : Fin 32,
    (rotorOrder rotor.val).Pairwise fun a b => rotorPlace rotor.val a < rotorPlace rotor.val b := by
  decide +kernel

theorem rotorOrder_perm (rotor : Nat) : (rotorOrder rotor).Perm stations :=
  List.perm_append_comm.trans (by rw [List.take_append_drop])

/-- In a list with rising places, the first `u` are those with fewer than `u` before them. -/
theorem mem_take_iff_of_pairwise {place : StationNo → Nat} : ∀ {l : List StationNo} (u : Nat) (n : StationNo),
    (l.Pairwise fun a b => place a < place b) → n ∈ l →
    (n ∈ l.take u ↔ (l.filter fun k => decide (place k < place n)).length < u) := by
  intro l
  induction l with
  | nil => intro u n _ h; cases h
  | cons a l ih =>
    intro u n hl hn
    obtain ⟨ha, hl⟩ := List.pairwise_cons.1 hl
    cases u with
    | zero => simp
    | succ u =>
      rcases List.mem_cons.1 hn with rfl | hn'
      · have : (l.filter fun k => decide (place k < place n)) = [] := by
          refine List.filter_eq_nil_iff.2 fun k hk => ?_
          have := ha k hk
          simp; omega
        simp [this]
      · have hlt := ha n hn'
        have hne : n ≠ a := fun e => by rw [e] at hlt; exact lt_irrefl _ hlt
        simp only [List.take_succ_cons, List.mem_cons, hne, false_or, ih u n hl hn',
          List.filter_cons, hlt, decide_true, if_true, List.length_cons]
        omega

/-- A member of S receives a leftover unit when fewer members of S stand before it in rotor order than units are
left over (R37). -/
theorem mem_leftoverTakers {rotor remaining : Nat} {share : List Sharer} {n : StationNo} (hr : rotor < 32)
    (hn : n ∈ share.map Sharer.station) :
    n ∈ leftoverTakers rotor remaining share ↔
      (stations.filter fun k => (share.map Sharer.station).contains k &&
        decide (rotorPlace rotor k < rotorPlace rotor n)).length <
          remaining - totalParts remaining (totalWeight share) share := by
  have hs : n ∈ (rotorOrder rotor).filter fun k => (share.map Sharer.station).contains k := by
    refine List.mem_filter.2 ⟨(rotorOrder_perm rotor).symm.subset
      ((by decide : ∀ k : StationNo, k ∈ stations) n), by simpa using hn⟩
  unfold leftoverTakers
  rw [mem_take_iff_of_pairwise _ _ ((rotorOrder_pairwise ⟨rotor, hr⟩).filter _) hs, List.filter_filter,
    ((rotorOrder_perm rotor).filter _).length_eq]
  simp only [Bool.and_comm]

end Sys2Proof.Machine
end

