-- ==== Sys2Proof/Tests/Slice0.lean ====
section
/-! SUPPORT. Tests: ill-formed operands refused, the manual's worked values, and for each statement a state
and operands that meet its hypotheses. -/

namespace Sys2Proof.Tests

open Sys2Proof Sys2Proof.Machine

/-! ### The states the tests start from -/

/-- The record of section 11.6: B 100, weight 1, 500 kbit/s, s 9, w 6, f 3, y 8. -/
def sheet : ConfigRecord :=
  ⟨0x0F, 0x3A, 0x00, 0x64, 0x00, 0x00, 0x01, 0x02, 0x09, 0x06, 0x03, 0x08, 0x00, 0x00, 0x00, 0x36⟩

/-- Station 6 in state `x` with that record, the line idle, and a request being collected. -/
def at6 (x : StationState) : State := { State.reset with
  resetLow := false, csnHigh := false
  loader := ⟨6, some sheet, true, some 0x1234, 0, .off⟩
  line := ⟨.idle, 0, 2, .none, 0⟩
  station := { Station.reset with state := x }
  port := ⟨.collecting, some 0xA3, none⟩ }

/-- A member of weight 1 and demand 80. -/
def share (grant entitlement : Nat) : Entry := .member ⟨1, 80, grant, entitlement, 0, false, false⟩

/-- The table of section 1.8: stations 3, 4 and 6 share 100 at epoch 5, TSN 12. -/
def table18 : Table := { Table.reset with
  entries := (((List.replicate 32 Entry.absent).set 3 (share 33 33)).set 4 (share 33 33)).set 6
    (share 20 34)
  epoch := 5, tsn := 12, starved := [6] }

/-- Station 6 at the start of section 1.8, settled. -/
def group : State := { at6 .member with
  table := table18
  grant := ⟨80, 20, none, false, false, ⟨34, [6], false⟩, 80⟩ }

/-- A frame of station `n` in step with that table. -/
def framed (n : StationNo) (b : Body) : Frame := ⟨n, 5, 12, b⟩

/-- Station 6 with that frame oldest in its ring. -/
def holding (f : Frame) (own : Bool) : State := { group with
  ring := { Ring.reset with entries := [⟨f, own⟩] } }

/-- The state a command leads to. -/
def after (c : Instr) (s : State) : State :=
  match exec c s with
  | .next t => t
  | .fault _ => s
  | .refused _ => s

/-! ### Ill-formed operands -/

theorem test_assigned_code_is_ill_formed : (Instr.unknownRequest 0x01).wellFormed = false := by decide
theorem test_unassigned_code_is_well_formed : (Instr.unknownRequest 0x02).wellFormed = true := by decide
theorem test_empty_activity_is_ill_formed : (Instr.frameReceived []).wellFormed = false := by decide
theorem test_released_start_is_ill_formed :
    (Instr.frameReceived [⟨false, true⟩]).wellFormed = false := by decide
theorem test_released_end_is_ill_formed :
    (Instr.frameReceived [⟨true, false⟩, ⟨false, false⟩]).wellFormed = false := by decide
theorem test_long_drive_is_ill_formed :
    (Instr.frameReceived [⟨true, true⟩, ⟨true, true⟩]).wellFormed = false := by decide
theorem test_long_release_is_ill_formed :
    (Instr.frameReceived [⟨true, false⟩, ⟨false, false⟩, ⟨false, false⟩, ⟨true, false⟩]).wellFormed =
      false := by decide
theorem test_frame_is_well_formed :
    (Instr.frameReceived (framed 3 .slow).cells).wellFormed = true := by decide +kernel

/-! ### The manual's worked values -/

theorem test_check_reference :
    crc [0x31, 0x32, 0x33, 0x34, 0x35, 0x36, 0x37, 0x38, 0x39] = 0x29B1 := by decide +kernel
theorem test_roster_vector : be32 (vectorOf [3, 4, 6, 9]) = [0x00, 0x00, 0x02, 0x58] := by decide
theorem test_slow_content :
    (Frame.mk 4 12 30 .slow).content = [0x60, 0x04, 0x00, 0x0C, 0x00, 0x1E] := by decide
theorem test_record_of_11_6 : recordValid sheet := by decide
theorem test_record_below_least_window : ¬ recordValid { sheet with rateCode := 0, check := 0x38 } := by
  decide
theorem test_record_slow_above_bound : ¬ recordValid { sheet with slowExp := 8, check := 0x31 } := by
  decide
theorem test_record_cap_above_budget : ¬ recordValid { sheet with capLo := 0x65, check := 0xD1 } := by
  decide

/-- Section 2.9 (a): three passes with a zero demand. -/
theorem test_run_a :
    (Run.mk .demand 0 7 [⟨2, 2, 60⟩, ⟨5, 1, 10⟩, ⟨9, 1, 50⟩] 100 [(12, 0)] 0).result =
      ⟨[(12, 0), (5, 10), (2, 60), (9, 30)], 3, 15⟩ := by decide

/-- Section 2.9 (b): even shares and the rotor, at epoch 5 and at epoch 7. -/
theorem test_run_b :
    (Run.mk .demand 0 5 [⟨3, 1, 80⟩, ⟨4, 1, 80⟩, ⟨6, 1, 80⟩] 100 [] 0).result =
      ⟨[(3, 33), (4, 33), (6, 34)], 1, 6⟩ ∧
    (Run.mk .demand 0 7 [⟨3, 1, 80⟩, ⟨4, 1, 80⟩, ⟨6, 1, 80⟩] 100 [] 0).result.found =
      [(3, 34), (4, 33), (6, 33)] := by decide

/-- Section 2.9 (c): a ghost reservation and a wrapping rotor. -/
theorem test_run_c :
    (Run.mk .demand 0 30 [⟨1, 3, 40⟩, ⟨7, 1, 5⟩, ⟨29, 2, 40⟩, ⟨31, 2, 40⟩] 38 [] 0).result =
      ⟨[(1, 15), (7, 4), (29, 9), (31, 10)], 1, 7⟩ := by decide

/-- Section 1.8, step 1: the CLAIM(60) of station 6 is applied with increment 14. -/
theorem test_claim_of_1_8 :
    (after .takeFrame (holding (framed 6 (.claim 60)) true)).gOwn = 34 ∧
    (after .takeFrame (holding (framed 6 (.claim 60)) true)).grant.applied = 34 ∧
    (after .takeFrame (holding (framed 6 (.claim 60)) true)).grant.backoff = true ∧
    (after .takeFrame (holding (framed 6 (.claim 60)) true)).table.tsn = 13 ∧
    (after .takeFrame (holding (framed 6 (.claim 60)) true)).table.sum = 100 ∧
    (after .takeFrame (holding (framed 6 (.claim 60)) true)).table.starved = [] :=
  ⟨rfl, rfl, rfl, rfl, rfl, rfl⟩

/-! ### Witnesses: states and operands that meet the statements' hypotheses -/

theorem test_witness_StepTakesTheFrontCommand :
    { group with pending := [.status, .join] }.pending = .status :: [.join] := by decide

theorem test_witness_EmptyQueueRunsTheClock :
    State.reset.pending = [] ∧ State.reset.dueCommand = none ∧
    (holding (framed 6 (.claim 60)) true).pending = [] ∧
    (holding (framed 6 (.claim 60)) true).dueCommand = some .takeFrame := by decide

theorem test_witness_ResetReleaseSamplesTheStraps : State.reset.resetLow = true := by decide

/-- Station 6 while a read attempt is in progress, `n` attempts having failed. -/
def reading (n : Nat) : State := { at6 .loading with
  loader := ⟨6, none, false, none, n, .attempt⟩ }

theorem test_witness_ValidRecordEntersListen :
    (reading 0).resetLow = false ∧ (reading 0).station.state = .loading ∧
    (reading 0).loader.reading = .attempt ∧ recordValid sheet := by decide

theorem test_witness_InvalidRecordEntersFault :
    (reading 0).resetLow = false ∧ (reading 0).station.state = .loading ∧
    (reading 0).loader.reading = .attempt ∧ ¬ recordValid { sheet with check := 0x37 } := by decide

theorem test_witness_FailedAttemptsAreRetriedTwice :
    (reading 1).resetLow = false ∧ (reading 1).station.state = .loading ∧
    (reading 1).loader.reading = .attempt ∧ (reading 1).loader.attempts < 2 ∧
    (reading 2).loader.reading = .attempt ∧ (reading 2).loader.attempts = 2 ∧
    { (reading 1).loader with reading := .waiting 2000 }.reading = .waiting 2000 := by decide

/-- The memory answers a part of a read attempt with byte `b`, holding SCL for as long as it may. -/
def answering (b : Byte) : BusAnswer := ⟨ms 1, false, true, b⟩

/-- An attempt the memory answers throughout, with the bytes of section 11.6; the failures at the two starts and
at the three bytes sent; and a hold in the last part. -/
theorem test_witness_FailedAttemptsAreRetriedTwice_bus :
    ((List.replicate 5 (answering 0) ++ (recordBytes sheet).map answering ++ [answering 0]).all fun a =>
      decide (a.held ≤ ms 1 ∧ a.sdaLow = false ∧ a.acknowledge = true)) = true ∧
    (List.replicate 5 (answering 0) ++ (recordBytes sheet).map answering ++ [answering 0]).length = 22 ∧
    busEnds readAttempt
      (List.replicate 5 (answering 0) ++ (recordBytes sheet).map answering ++ [answering 0]) [] =
        some (.readAttemptComplete sheet) ∧
    (∀ n ∈ [0, 3], busEnds readAttempt
      (List.replicate n (answering 0) ++ [⟨0, true, true, 0⟩]) [] = some .readAttemptFailed) ∧
    (∀ n ∈ [1, 2, 4], busEnds readAttempt
      (List.replicate n (answering 0) ++ [⟨0, false, false, 0⟩]) [] = some .readAttemptFailed) ∧
    busEnds readAttempt (List.replicate 21 (answering 0) ++ [⟨ms 1 + 1, false, true, 0⟩]) [] =
      some .sclHoldTimeout := by decide +kernel

/-- The Table Unit takes the oldest frame: everything this asks for can be computed. -/
theorem takes_of {s : State} {e : RingEntry} {rest : List RingEntry}
    (h : s.resetLow = false ∧ s.engine.run = none ∧ s.table.snapPending = false ∧
      s.recount.closeWaiting = false ∧ s.station.listenWaiting = false ∧ s.ring.entries = e :: rest) :
    s.takes e rest := h

/-- A frame is in step when it is admitted and the rest, which can be computed, holds. -/
theorem inStep_of {s : State} {f : Frame} {own : Bool} {m : Member} (a : s.admits f own)
    (h : (s.working ∧ s.table.entries.length = 32) ∧ s.table.member? f.sender = some m ∧
      f.epoch = s.table.epoch ∧ f.tsn = s.table.tsn) : s.inStep f own m :=
  ⟨h.1.1, h.1.2, a, h.2⟩

/-- A queue of slots without follow-on values, each in range, within its capacity. -/
theorem queueSound_of {q : List Slot} (h : q.length ≤ 4 ∧ (q.map Slot.kind).Nodup ∧
    (∀ sl ∈ q, sl.attempts ≤ 16 ∧ sl.backoffLeft ≤ 63 ∧ sl.followOn = none) ∧
    (q.filter fun sl => sl.state == .onLine).length ≤ 1) : queueSound q := by
  obtain ⟨h1, h2, h3, h4⟩ := h
  refine ⟨⟨h1, h2, fun sl m => ?_⟩, h4⟩
  obtain ⟨a, b, c⟩ := h3 sl m
  exact ⟨a, b, fun p k => by rw [c] at k; cases k⟩

/-- With no window, no close, no listening and no run under way `phaseInv` asks for nothing. -/
theorem idle_phaseInv {s : State} (h : s.recount.closeWaiting = false ∧ s.recount.windowTimer = none ∧
    s.station.listenTimer = none ∧ s.station.listenWaiting = false ∧ s.engine.run = none) : s.phaseInv := by
  obtain ⟨h1, h2, h3, h4, h5⟩ := h
  refine ⟨?_, ?_, ?_⟩
  · rw [h1, h2]; simp
  · rw [h3, h4]; simp
  · intro r k; rw [h5] at k; cases k

/-- Outside CHECK and with no run, `confirmInv` asks for no more than that. -/
theorem idle_confirmInv {s : State} (h : (s.recount.closeWaiting = false ∧ s.recount.windowTimer = none ∧
    s.station.listenTimer = none ∧ s.station.listenWaiting = false ∧ s.engine.run = none) ∧
    (s.recount.phase = .check →
      ∃ n, n ≠ s.own ∧ (s.table.member? n).any fun m => m.confirmed == false)) : s.confirmInv := by
  refine ⟨idle_phaseInv h.1, fun k => ?_, fun r k => ?_⟩
  · obtain ⟨n, hn, hm⟩ := h.2 k
    cases e : s.table.member? n with
    | none => rw [e] at hm; cases hm
    | some m => exact ⟨n, m, hn, e, by simpa [e] using hm⟩
  · rw [h.1.2.2.2.2] at k; cases k

theorem test_witness_TransactionsFollowChipSelect :
    { group with port := ⟨.idle, none, none⟩ }.port.state = .idle ∧ group.port.state = .collecting ∧
    (after .status group).port.state = .answering ∧ group.resetLow = false := by decide

theorem test_witness_UnknownCodeIsAnsweredUnknown :
    group.collecting ∧ (0x02 : Byte) ∉ assignedCodes ∧ (0x51 : Byte) ∉ assignedCodes ∧
    group.csnHigh = false ∧ (Instr.setDemand 80).wellFormed = true ∧
    requestBytes (.setDemand 80) ≠ [] ∧ requestBytes (.unknownRequest 0x51) ≠ [] ∧
    requestOf [0x10, 0x00, 0x50, 0x07] = some (.setDemand 80) ∧ [true].length < 8 ∧
    ((bytesBits (requestBytes (.setDemand 80))).take 23) ++ [false] =
      bytesBits (requestBytes (.setDemand 80)) := by decide

/-- A YIELD request down to 10 on A 20, another member being starved. -/
def yielding : State := { group with
  grant := ⟨80, 20, some ⟨.yield, 10, 1000⟩, false, false, ⟨10, [3], false⟩, 80⟩ }

theorem test_witness_StatusReturnsItsLayout :
    group.collecting ∧ group.station.state = .member ∧ group.grant.lower = none ∧
    (at6 .listen).collecting ∧ (at6 .listen).station.state ≠ .member ∧
    yielding.grant.lower = some ⟨.yield, 10, 1000⟩ := by decide

theorem test_witness_GrantRequestsOutOfPlaceAreRefused :
    (at6 .loading).collecting ∧ (at6 .loading).station.state = .loading ∧
    (at6 .fault).collecting ∧ (at6 .fault).station.state = .fault ∧ group.collecting ∧
    group.station.state ≠ .loading ∧ group.station.state ≠ .fault ∧
    group.stationCap < (101 : Half).toNat ∧ group.grant.applied ≤ (20 : Half).toNat := by decide

/-- Grant Control's lower request `r` on A 20, E_own 10 last heard, with `n` heard as starved. -/
def asked (r : Option LowerRequest) (n : List StationNo) : State := { group with
  grant := ⟨80, 20, r, false, false, ⟨10, n, false⟩, 80⟩ }

/-- One clause of `loweredTo` after another: met, kept under a need and in ISOLATED, withdrawn, and with no
request none and a new one; and a RELEASE below g_own. -/
theorem test_witness_loweredTo :
    (asked (some ⟨.yield, 10, 1000⟩) [3]).grant.lower = some ⟨.yield, 10, 1000⟩ ∧
    ¬ (asked (some ⟨.yield, 10, 1000⟩) [3]).needAt 10 ∧
    (asked (some ⟨.yield, 10, 1000⟩) [3]).needAt 11 ∧ ¬ (asked (some ⟨.yield, 10, 1000⟩) []).needAt 11 ∧
    (asked none [3]).grant.lower = none ∧ (asked none [3]).needAt 11 ∧ ¬ (asked none []).needAt 11 ∧
    (asked none []).working ∧ (asked none []).settled ∧ queueSound (asked none []).queue ∧
    11 < (asked none []).grant.applied ∧ 11 < (asked none []).gOwn := by
  refine ⟨by decide, ?_, ?_, ?_, by decide, ?_, ?_, by decide, by decide, queueSound_of (by decide),
    by decide, by decide⟩ <;> (unfold State.needAt; decide)

theorem test_witness_SetDemandSetsHAndTrimsA :
    group.collecting ∧ group.station.state ≠ .loading ∧ group.station.state ≠ .fault ∧
    (100 : Half).toNat ≤ group.stationCap ∧ group.grant.applied ≤ (20 : Half).toNat ∧
    (19 : Half).toNat < group.grant.applied ∧ group.settled ∧ group.queue.length ≤ 1 ∧
    (79 : Half).toNat ≠ group.grant.demand ∧ (79 : Half).toNat ≠ group.dOwn := by decide

theorem test_witness_queue : queueSound group.queue := queueSound_of (by decide)

theorem test_witness_ConfirmBelowALowersA :
    group.collecting ∧ group.station.state ≠ .loading ∧ group.station.state ≠ .fault ∧
    (19 : Half).toNat < group.grant.applied := by decide

theorem test_witness_ConfirmMeetsOrKeepsTheRequest :
    yielding.collecting ∧ (10 : Half).toNat < yielding.grant.applied ∧
    (11 : Half).toNat < yielding.grant.applied ∧
    yielding.grant.lower = some ⟨.yield, 10, 1000⟩ ∧ yielding.working ∧
    yielding.grant.seen.entitlement = 10 ∧ yielding.othersStarved := by decide

/-- Station 6 isolated or barred with A 20 and its request to lower to nothing. -/
def lowering (x : StationState) : State := { at6 x with
  grant := ⟨80, 20, some ⟨.isolate, 0, 1000⟩, false, false, Notice.reset, 0⟩ }

theorem test_witness_ConfirmZeroStartsTheIsolationHold :
    (lowering .isolated).collecting ∧ (lowering .isolated).station.state = .isolated ∧
    0 < (lowering .isolated).grant.applied ∧
    (lowering .isolated).grant.lower = some ⟨.isolate, 0, 1000⟩ ∧
    (lowering .isolated).station.holdTimer = none ∧ (lowering .barred).collecting := by decide

theorem test_witness_ClearCutoffDeasserts :
    (at6 .listen).collecting ∧ (at6 .listen).grant.cutoff = true ∧ group.collecting ∧
    group.station.state = .member ∧ group.grant.cutoff = false ∧ (at6 .parked).collecting ∧
    (at6 .isolated).collecting ∧ (at6 .barred).collecting ∧ (at6 .loading).collecting ∧
    (at6 .fault).collecting := by decide

/-- A run in progress. -/
def running : State := group.startRun .demand

theorem test_witness_SnapshotsAreTakenWhenIdle :
    group.collecting ∧ group.table.snapPending = false ∧ group.engine.run = none ∧
    running.collecting ∧ running.engine.run ≠ none ∧
    { group.table with snapPending := true }.snapPending = true ∧ (at6 .fault).collecting := by decide

theorem test_witness_SnapshotReadsFollowValidity :
    group.collecting ∧ group.table.snapshot = none ∧
    group.takeSnapshotNow.table.snapshot = some group.snapshotNow ∧
    (31 : Byte).toNat ≤ 31 ∧ 31 < (32 : Byte).toNat := by decide +kernel

theorem test_witness_ReadsReturnWhatIsHeld :
    group.collecting ∧ group.loader.record = some sheet ∧ group.loader.digest = some 0x1234 ∧
    (reading 0).collecting ∧ (reading 0).loader.record = none := by decide

theorem test_witness_ClearEventsClearsTheNamedFlags :
    group.collecting ∧ (8191 : Half).toNat < 8192 ∧ 8192 ≤ (8192 : Half).toNat := by decide

theorem test_witness_SetMaskReplacesTheMask :
    group.collecting ∧ (8191 : Half).toNat < 8192 ∧ 8192 ≤ (8192 : Half).toNat := by decide

theorem test_witness_ClearCountersSetsAllToZero : group.collecting := by decide

/-- Station 6, settled, with A and g_own at 0. -/
def empty6 : State := { group with
  table := table18.setEntry 6 (share 0 34), grant := { group.grant with applied := 0 } }

theorem test_witness_LeaveRequestsARecount :
    empty6.collecting ∧ empty6.settled ∧ empty6.grant.applied = 0 ∧ empty6.gOwn = 0 ∧
    ¬ empty6.leaveQueued ∧ slotOf .recount empty6.queue = none ∧
    empty6.recount.requested = false ∧
    ¬ { empty6 with queue := [Slot.fresh 0 (.recount 6 .behind)] }.leaveQueued ∧
    { empty6 with queue := [Slot.fresh 0 (.recount 6 .leave)] }.leaveQueued ∧
    group.collecting ∧ ¬ (group.grant.applied = 0) ∧ (at6 .listen).station.state ≠ .member := by
  decide

/-- An empty queue, one with a RECOUNT in it, and a full one. -/
theorem test_witness_LeaveRequestsARecount_queue :
    queueSound empty6.queue ∧ queueSound [Slot.fresh 0 (.recount 6 .behind)] ∧
    queueSound [Slot.fresh 0 .slow, Slot.fresh 0 (.demand 80), Slot.fresh 0 (.clear 9),
      Slot.fresh 0 (.beacon false)] :=
  ⟨queueSound_of (by decide), queueSound_of (by decide), queueSound_of (by decide)⟩

theorem test_witness_JoinLeavesParkedAlone :
    (at6 .parked).collecting ∧ (at6 .parked).station.state = .parked ∧ group.collecting ∧
    group.station.state ≠ .parked := by decide

theorem test_witness_RestartNeedsAAtZero :
    empty6.collecting ∧ empty6.station.state ≠ .loading ∧ empty6.station.state ≠ .fault ∧
    empty6.grant.applied = 0 ∧ group.collecting ∧ group.grant.applied ≠ 0 ∧
    (at6 .loading).collecting ∧ (at6 .fault).collecting := by decide

theorem test_witness_ReceiveChecksGiveBackEveryFrame :
    (framed 3 (.claim 1)).inRange ∧ (framed 3 (.report 5 15 80 33 0x1234)).inRange := by
  constructor <;> simp [Frame.inRange, framed]

theorem test_witness_MalformedActivitiesAreRejected :
    (∃ c ∈ [Cell.mk true true], c.first = c.second) ∧
    List.take 8 [true, false, true, true] ≠ [true, false, true, true, false, false, true, false] ∧
    [true, false, true].length % 8 ≠ 0 ∧ (0 : Half) ≠ crc [] ∧ [0x60, 0x04].length < 8 ∧
    (0x0F : Byte) >>> 4 = 0 ∧ 8 < ((0x90 : Byte) >>> 4).toNat ∧ (0x20 : Byte) >>> 4 = kindCode .demand ∧
    ([0] : List Byte).length ≠ payloadLength .demand ∧ (0x21 : Byte) &&& 0x0F ≠ 0 ∧
    (0x20 : Byte) &&& 0xE0 ≠ 0 ∧ (0x30 : Byte) >>> 4 = 3 ∧ (0x50 : Byte) >>> 4 = 5 ∧
    (∃ x ∈ ([32] : List Byte), 31 < x.toNat) ∧ (0x70 : Byte) >>> 4 = 7 ∧
    (∃ x ∈ ([0, 6, 8] : List Byte).drop 2, 7 < x.toNat) ∧ (0x80 : Byte) >>> 4 = 8 ∧
    (∃ x ∈ (([0, 6, 0x10, 0, 0, 0, 0, 0, 0] : List Byte).drop 2).take 1, x = 0 ∨ x &&& 0xF0 ≠ 0) := by
  decide

theorem test_witness_MalformedActivitiesAreRejected_range :
    ¬ (framed 3 (.claim 0)).inRange ∧ ¬ (framed 3 (.report 5 0 80 33 0x1234)).inRange := by
  constructor <;> simp [Frame.inRange, framed]

theorem test_witness_ActivityStopsTheCounts :
    group.resetLow = false ∧ group.line.state = .idle ∧
    { group.line with state := .starting }.state = .starting := by decide

/-- Station 6 in `s` while another station drives the line. -/
def hearing (s : State) : State := { s with line := ⟨.busy, 0, 2, .none, 0⟩ }

theorem test_witness_RejectedFramesSetSuspect :
    (hearing group).resetLow = false ∧ (hearing group).line.state = .busy ∧
    (hearing group).line.tx = .none ∧ receiveCheck [⟨true, true⟩] = none ∧ group.line.state = .idle ∧
    group.line.tx = .none ∧ group.table.suspect = false ∧
    { group.table with suspect := true }.suspect = true ∧ noneWaits group.queue .claim ∧
    ¬ noneWaits [Slot.fresh 0 (.claim 5)] .claim := by decide

/-- A ring of `n` frames. -/
def filled (n : Nat) : Ring := { Ring.reset with
  entries := List.replicate n ⟨framed 3 (.release 33), false⟩ }

theorem test_witness_ValidFramesAreStoredInOrder :
    (hearing group).resetLow = false ∧ (hearing group).line.state = .busy ∧
    (hearing group).line.tx = .none ∧
    receiveCheck (framed 3 (.release 33)).cells = some (framed 3 (.release 33)) ∧
    (framed 3 (.release 33)).kind ≠ .slow ∧ (hearing group).station.state = .member ∧
    (hearing { group with ring := filled 15 }).ring.entries.length < 16 ∧
    (hearing (at6 .parked)).station.state = .parked ∧
    (hearing (at6 .listen)).station.state = .listen ∧
    (hearing (at6 .barred)).station.state = .barred ∧ 12 ≤ (filled 12).entries.length ∧
    (filled 12).flow = .off ∧ (hearing group).queue.length < 4 ∧ (filled 11).entries.length < 12 ∧
    { filled 12 with flow := .sending }.flow ≠ .off := by decide +kernel

theorem test_witness_FullRingDropsAndRecounts :
    (hearing group).station.state = .member ∧ 16 ≤ (filled 16).entries.length ∧
    receiveCheck (framed 3 (.release 33)).cells = some (framed 3 (.release 33)) ∧
    (hearing (at6 .listen)).station.state = .listen ∧ (hearing (at6 .isolated)).station.state = .isolated ∧
    (hearing (at6 .barred)).station.state = .barred ∧
    (hearing group).recount.phase ≠ .window ∧ (hearing group).recount.requested = false ∧
    { group.recount with highest := some 5 }.highest = some 5 ∧
    { group.recount with phase := .window }.phase = .window := by decide +kernel

theorem test_witness_SlowFramesSetTheDeferral :
    receiveCheck (framed 3 .slow).cells = some (framed 3 .slow) ∧ (framed 3 .slow).kind = .slow ∧
    ¬ ((hearing group).station.state = .isolated ∧ (framed 3 .slow).sender = group.own) ∧
    (hearing group).ring.deferral = none ∧
    { group.ring with deferral := some 50 }.deferral = some 50 := by decide +kernel

theorem test_witness_WatchBarsAnIsolatedStation :
    (hearing (at6 .isolated)).station.state = .isolated ∧
    receiveCheck (framed 6 (.release 33)).cells = some (framed 6 (.release 33)) ∧
    (framed 6 (.release 33)).sender = (at6 .isolated).own ∧
    (framed 3 (.release 33)).sender ≠ (at6 .isolated).own ∧
    receiveCheck (framed 6 .slow).cells = some (framed 6 .slow) ∧ (framed 6 .slow).kind = .slow ∧
    (framed 6 .slow).sender = (at6 .isolated).own ∧
    (framed 3 (.release 33)).body.digest? = none ∧
    (framed 3 (.beacon 0 0 0 1)).body.digest? = some 1 ∧ (1 : Half) ≠ (at6 .isolated).digest := by
  decide +kernel

/-- A QUEUED RELEASE and a QUEUED DEMAND, the gap of each having run. -/
def twoWaiting : State := { group with
  now := 1000
  queue := [Slot.fresh 0 (.demand 80), Slot.fresh 1 (.release 10)] }

theorem test_witness_SlotStartSendsTheChosenFrame :
    twoWaiting.resetLow = false ∧ twoWaiting.line.state = .idle ∧ twoWaiting.line.tx = .none ∧
    (twoWaiting.queue.map Slot.kind).Nodup ∧ Slot.fresh 1 (.release 10) ∈ twoWaiting.queue ∧
    twoWaiting.allows (.release 10) ∧ twoWaiting.allows (.demand 80) ∧
    ¬ { twoWaiting with ring := { Ring.reset with deferral := some 2000 } }.allows (.demand 80) ∧
    twoWaiting.line.since + (10 + 4 * 0) * bitTime twoWaiting.line.rateCode ≤ twoWaiting.now ∧
    (Payload.release 10).lineClass < (Payload.demand 80).lineClass := by
  unfold State.allows; decide

/-- A slot of `k` attempts waiting out `n` backoff slots. -/
def backing (n k : Nat) : Slot := { Slot.fresh 0 (.demand 80) with
  state := .backoff, backoffLeft := n, attempts := k }

theorem test_witness_BackoffSlotsCountDown :
    { group with queue := [backing 1 1] }.queue = [backing 1 1] ∧ (backing 1 1).state = .backoff ∧
    (backing 2 2).backoffLeft = 2 ∧ ([backing 1 1].map Slot.kind).Nodup ∧
    group.line.state = .idle := by decide

/-- A slot ON_LINE at attempt `n`. -/
def onAir (p : Payload) (n : Nat) : Slot := { Slot.fresh 0 p with state := .onLine, attempts := n }

/-- Station 6 driving the frame of slot `sl`. -/
def driving (s : State) (sl : Slot) : State := { s with
  queue := [sl], line := ⟨.busy, 0, 2, .sending (s.formFrame sl.payload), 0⟩ }

theorem test_witness_CollisionsJamTheLine :
    (driving group (onAir (.demand 80) 1)).line.tx = .sending (framed 6 (.demand 80)) ∧
    (driving group (onAir (.demand 80) 1)).resetLow = false ∧
    (after .readBackMismatch (driving group (onAir (.demand 80) 1))).line.tx = .jamming 32 ∧
    (after .readBackMismatch (driving group (onAir (.demand 80) 1))).line.state = .busy ∧
    (hearing group).line.state = .busy ∧ (hearing group).line.tx = .none ∧
    group.line.state = .idle ∧ group.line.tx = .none ∧
    { (hearing group).line with tx := .jammed }.tx = .jammed := by decide

/-- The line in JAM, the own attempt of slot `sl` having ended in it. -/
def jammed (s : State) (sl : Slot) : State := { s with
  queue := [sl], line := ⟨.jam, 0, 2, .jammed, 0⟩ }

theorem test_witness_EndOfJamDecidesTheSlot :
    (jammed group (onAir (.demand 80) 16)).line.state = .jam ∧
    (jammed group (onAir (.demand 80) 16)).line.tx = .jammed ∧
    (onAir (.demand 80) 16).state = .onLine ∧ (onAir (.demand 80) 16).flushed = false ∧
    { onAir (.demand 80) 1 with finishing := true, flushed := true }.flushed = true ∧
    (onAir (.demand 80) 16).finishing = false ∧ (onAir (.demand 80) 16).kind ≠ .release ∧
    (onAir (.demand 80) 16).kind ≠ .recount ∧ group.station.abandonments = 0 ∧
    ((onAir (.recount 6 .lost) 16).followOn.getD (onAir (.recount 6 .lost) 16).payload).cause? =
      some .lost ∧ { group.recount with highest := some 5 }.highest = some 5 ∧
    { group.station with abandonments := 1 }.abandonments ≠ 0 ∧
    (onAir (.release 10) 16).kind = .release ∧ (onAir (.demand 80) 15).attempts < 16 ∧
    { onAir (.demand 80) 1 with finishing := true }.finishing = true := by
  decide

theorem test_witness_EndOfJamDecidesTheSlot_queue :
    queueOk (jammed group (onAir (.demand 80) 16)).queue := (queueSound_of (by decide)).1

theorem test_witness_OwnFramesCompleteAndLoopBack :
    (driving group (onAir (.demand 80) 1)).line.tx = .sending (framed 6 (.demand 80)) ∧
    (framed 6 (.demand 80)).kind = (onAir (.demand 80) 1).kind ∧ (framed 6 (.demand 80)).kind ≠ .slow ∧
    (Payload.demand 80).isLeave = false ∧ { group with ring := filled 11 }.ring.entries.length < 12 ∧
    12 ≤ (filled 12).entries.length ∧ (filled 15).entries.length < 16 ∧ (filled 12).flow = .off ∧
    { filled 12 with flow := .holding }.flow ≠ .off ∧ (driving group (onAir (.demand 80) 1)).queue.length ≤ 2 ∧
    16 ≤ (filled 16).entries.length ∧ (framed 6 (.recount 6 .lost)).kind = .recount ∧
    (onAir (.recount 6 .lost) 1).followOn = none ∧ { group.recount with phase := .window }.phase = .window ∧
    { onAir (.demand 80) 1 with finishing := true, flushed := true }.flushed = true ∧
    (driving (at6 .isolated) (onAir (.demand 80) 1)).line.tx = .sending ⟨6, 0, 0, .demand 80⟩ ∧
    (driving (at6 .barred) (onAir (.demand 80) 1)).station.state = .barred ∧
    (driving (at6 .parked) (onAir (.demand 80) 1)).station.state = .parked ∧
    (Body.demand 80).digest? = none ∧
    (driving group (onAir .slow 1)).line.tx = .sending (framed 6 .slow) ∧
    { group.ring with flow := .sending }.flow = .sending ∧ group.ring.flow ≠ .sending ∧
    (driving group (onAir (.recount 6 .leave) 1)).line.tx = .sending (framed 6 (.recount 6 .leave)) ∧
    group.grant.applied ≠ 0 ∧
    (driving empty6 (onAir (.recount 6 .leave) 1)).line.tx = .sending (framed 6 (.recount 6 .leave)) ∧
    (Payload.recount 6 .leave).isLeave = true ∧ empty6.station.state = .member ∧
    empty6.grant.applied = 0 ∧ empty6.gOwn = 0 := by decide

/-- Station 6 in table 1.8 with an expired ghost 9. -/
def haunted : State := { group with table := table18.setEntry 9 (.ghost ⟨5, none⟩) }

/-- Station 6 of section 1.8 with A and H as given. -/
def holds6 (h a : Nat) : State := { group with grant := { group.grant with demand := h, applied := a } }

theorem test_witness_StandingConditionsQueueTheirFrames :
    group.settled ∧ group.queue = [] ∧
    (holds6 80 19).grant.applied < (holds6 80 19).gOwn ∧
    (holds6 80 19).releaseItems ≠ group.releaseItems ∧ group.gOwn ≤ group.grant.applied ∧
    (holds6 79 20).grant.demand ≠ (holds6 79 20).dOwn ∧
    (holds6 79 20).demandItems ≠ group.demandItems ∧ group.grant.demand = group.dOwn ∧
    group.grant.demand ≠ (holds6 79 20).grant.demand ∧
    (onAir (.demand 79) 1).state = .onLine ∧
    haunted.table.lowestExpired = some 9 ∧ haunted.clearItems ≠ group.clearItems ∧
    group.claimItems ≠ (holds6 80 19).claimItems ∧
    ¬ group.freedSince group ∧ (at6 .listen).station.state ≠ .member := by
  decide

theorem test_witness_StandingConditionsQueueTheirFrames_queue :
    queueSound group.queue ∧ queueSound [onAir (.demand 79) 1] :=
  ⟨queueSound_of (by decide), queueSound_of (by decide)⟩

/-- A SLOW withdrawn from the queue, or freed, with fewer than 10 places free and with 10. -/
theorem test_witness_StandingConditionsQueueTheirFrames_slow :
    group.station.state = .member ∧ { filled 7 with flow := .sending }.flow = .sending ∧
    group.queue.length ≤ 2 ∧ 6 < (filled 7).entries.length ∧ (filled 6).entries.length ≤ 6 ∧
    (Slot.fresh 0 .slow).kind = .slow ∧ (Slot.fresh 0 .slow).flushed = false := by decide

/-- A queue with a free slot that holds a waiting DEMAND, and one whose four slots make no room for a CLEAR. -/
theorem test_witness_StandingConditionsQueueTheirFrames_full :
    queueSound [Slot.fresh 0 (.demand 79), Slot.fresh 0 .slow, onAir (.beacon false) 1] ∧
    queueSound [Slot.fresh 0 (.release 10), Slot.fresh 0 (.demand 79), Slot.fresh 0 .slow,
      onAir (.beacon false) 1] ∧
    fullFor [Slot.fresh 0 (.release 10), Slot.fresh 0 (.demand 79), Slot.fresh 0 .slow,
      onAir (.beacon false) 1] (.clear 9) :=
  ⟨queueSound_of (by decide), queueSound_of (by decide), by unfold fullFor; decide⟩

theorem test_witness_StandingConditionsQueueTheirFrames_claim :
    group.claims ∧ ¬ { group with grant := { group.grant with cutoff := true } }.claims := by
  unfold State.claims; decide

/-! ### What one command does -/

theorem test_bytes_of_a_request :
    requestOf [0x10, 0x00, 0x50, 0xFF] = some (.setDemand 80) ∧ requestOf [0x10, 0x00] = none ∧
    requestOf [0x22, 0x20] = some (.readEntry 32) ∧ requestOf [0x02] = some (.unknownRequest 0x02) ∧
    completeBytes (bytesBits [0x4E] ++ [true, false]) = [0x4E] := by decide

/-- The greeting stands on MISO from its bit 7, before the first falling edge; the status of a request without
arguments begins at the eighth falling edge (R167, R168). -/
theorem test_miso_of_a_status :
    let p := (after .status group).port
    (List.range 8).map p.misoLevel = bytesBits [0xA3] ∧
    (List.range 16).map p.misoLevel = bytesBits [0xA3, 0x00] ∧
    (p.misoBytes.drop 2).take 2 = [0x03, 0x00] := by decide

/-- A CLAIM in BACKOFF outlives a MISMATCH that is pending already (R74). -/
theorem test_pending_cause_is_not_added_twice :
    let s := { group with
      queue := [{ Slot.fresh 0 (.claim 5) with state := .backoff, backoffLeft := 1, attempts := 1 }]
      table := { table18 with diverged := true }
      recount := { Recount.reset with guardTimer := some 900, causes := ⟨true, false, false⟩ } }
    (s.giveCause .mismatch).queue = s.queue ∧ (s.giveCause .merge).queue = [] := by decide

/-- A collision that only retries a BEACON asks for no CLEAR (R154). -/
theorem test_retry_asks_for_nothing :
    (after .endOfJam (jammed haunted (onAir (.beacon false) 1))).queue.length = 1 := by decide

/-- H set back to d_own while a DEMAND is ON_LINE: the DEMAND stays, with the new H to follow (R56). -/
theorem test_demand_set_back_on_line :
    (after (.setDemand 80) { holds6 79 20 with queue := [onAir (.demand 79) 1] }).queue.head? =
      some { onAir (.demand 79) 1 with followOn := some (.demand 80) } := by decide

/-- Station 6 with a demand of 20 recorded and shared out, H at 80, and its DEMAND(80) oldest in the ring. -/
def raising : State := { holding (framed 6 (.demand 80)) true with
  table := table18.setEntry 6 (.member ⟨1, 20, 20, 20, 0, false, false⟩)
  grant := ⟨80, 20, none, false, false, ⟨20, [], false⟩, 20⟩ }

/-- A raised H is claimed once the engine has run over it, and not before (R50). -/
theorem test_raised_demand_is_claimed_after_the_run :
    (after .takeFrame raising).dOwn = 80 ∧ (after .takeFrame raising).queue = [] ∧
    (after .engineRunComplete (after .takeFrame raising)).queue.map Slot.payload = [.claim 60] :=
  ⟨rfl, rfl, rfl⟩

/-- Station 6 holding 60 where it is entitled to 34, with lower request `r`, and `f` oldest in its ring. -/
def over34 (r : Option LowerRequest) (a : Nat) (f : Frame) : State := { holding f false with
  table := table18.setEntry 6 (share 60 34)
  grant := ⟨80, a, r, false, false, ⟨34, [], false⟩, 80⟩ }

/-- A RELEASE(10) of station 3 makes that station starved: a YIELD request is created, or follows E_own with its
deadline kept, and one that A meets by E_own is withdrawn (R60, R61). -/
theorem test_yield_after_release :
    let take := fun r a => after .takeFrame (over34 r a (framed 3 (.release 10)))
    (take none 60).grant.lower = some ⟨.yield, 34, ms 256⟩ ∧
    (take none 60).events.flags = Event.lowerRequest.bit ∧
    (take (some ⟨.yield, 40, 1000⟩) 60).grant.lower = some ⟨.yield, 34, 1000⟩ ∧
    (take (some ⟨.yield, 40, 1000⟩) 60).events.flags = Event.lowerRequest.bit ∧
    (take (some ⟨.yield, 30, 1000⟩) 60).grant.lower = some ⟨.yield, 34, 1000⟩ ∧
    (take (some ⟨.yield, 30, 1000⟩) 60).events.flags = 0 ∧
    (take (some ⟨.yield, 20, 1000⟩) 34).grant.lower = none ∧
    (take (some ⟨.yield, 20, 1000⟩) 34).events.flags = Event.lowerWithdrawn.bit :=
  ⟨rfl, rfl, rfl, rfl, rfl, rfl, rfl, rfl⟩

/-- Entry to ISOLATED with A above 0 asks for nothing; with A at 0 it starts the hold (R64, R111). -/
theorem test_isolation_lowers_to_nothing :
    group.requestIsolated.grant.lower = some ⟨.isolate, 0, ms 256⟩ ∧
    group.requestIsolated.station.holdTimer = none ∧
    (over34 (some ⟨.yield, 34, 100⟩) 60 (framed 3 .slow)).requestIsolated.grant.lower =
      some ⟨.isolate, 0, 100⟩ ∧
    empty6.requestIsolated.grant.lower = none ∧
    empty6.requestIsolated.station.holdTimer = some (ms 1024) := by decide +kernel

theorem test_witness_StrangeNumberOrDigestBars :
    (holding (framed 6 (.claim 60)) false).takes ⟨framed 6 (.claim 60), false⟩ [] ∧
    (holding (framed 6 (.claim 60)) false).takesPart ∧
    ¬ (holding (framed 6 (.claim 60)) false).admits (framed 6 (.claim 60)) false ∧
    0 < group.grant.applied ∧ group.grant.lower = none ∧ ¬ (at6 .barred).takesPart := by
  refine ⟨takes_of (by decide), by decide, ?_, by decide,
    by decide, by decide⟩
  intro h
  exact h.1 (by decide)

/-- A frame without a digest, of another station or the own loopback, is admitted. -/
theorem admits_plain {s : State} {f : Frame} {own : Bool} (h : f.sender = s.own → own = true)
    (hd : f.body.digest? = none) : s.admits f own := by
  refine ⟨fun ⟨h1, h2⟩ => ?_, fun d h1 => ?_⟩
  · rw [h h1] at h2; cases h2
  · rw [hd] at h1; cases h1

/-- The member of section 1.8 with grant `g` and entitlement `e`. -/
theorem test_witness_ClaimsCommitTheirIncrement :
    (holding (framed 6 (.claim 60)) true).takes ⟨framed 6 (.claim 60), true⟩ [] ∧
    (holding (framed 6 (.claim 60)) true).inStep (framed 6 (.claim 60)) true
      ⟨1, 80, 20, 34, 0, false, false⟩ ∧
    (∀ n ∈ group.table.starved, n = 6) ∧ (∃ n ∈ group.table.starved, n ≠ 3) ∧
    (holding (framed 3 (.claim 5)) false).inStep (framed 3 (.claim 5)) false
      ⟨1, 80, 33, 33, 0, false, false⟩ := by
  refine ⟨takes_of (by decide),
    inStep_of (admits_plain (by decide) (by decide)) (by decide),
    by decide, by decide,
    inStep_of (admits_plain (by decide) (by decide)) (by decide)⟩

/-- A BEACON of station 3 as its entry and the roster of section 1.8 have it. -/
def beacon3 (grant : Half) (roster : BitVec 32) : Frame := framed 3 (.beacon grant 80 roster 0x1234)

/-- A frame that carries the own digest, of another station or the own loopback, is admitted. -/
theorem admits_digest {s : State} {f : Frame} {own : Bool} (h : f.sender = s.own → own = true)
    (hd : f.body.digest? = some s.digest) : s.admits f own := by
  refine ⟨fun ⟨h1, h2⟩ => ?_, fun d h1 => ?_⟩
  · rw [h h1] at h2; cases h2
  · rw [hd] at h1; exact (Option.some.inj h1).symm

/-- Station 6 in CHECK with `f` oldest in its ring, station 4 confirmed or not. -/
def checking4 (f : Frame) (confirmed : Bool) : State := { holding f false with
  table := table18.setEntry 4 (.member ⟨1, 80, 33, 33, 0, false, confirmed⟩)
  recount := { Recount.reset with phase := .check, count := 1, checkTimer := some 900 } }

theorem test_witness_TableFramesAreApplied :
    (holding (framed 3 (.demand 10)) false).takes ⟨framed 3 (.demand 10), false⟩ [] ∧
    (holding (framed 3 (.demand 10)) false).inStep (framed 3 (.demand 10)) false
      ⟨1, 80, 33, 33, 0, false, false⟩ ∧
    (holding (framed 3 (.release 10)) false).inStep (framed 3 (.release 10)) false
      ⟨1, 80, 33, 33, 0, false, false⟩ ∧
    (holding (framed 3 (.clear 9)) false).inStep (framed 3 (.clear 9)) false
      ⟨1, 80, 33, 33, 0, false, false⟩ ∧
    haunted.table.isGhost 9 = true ∧ group.table.isGhost 9 = false := by
  refine ⟨takes_of (by decide),
    inStep_of (admits_plain (by decide) (by decide)) (by decide),
    inStep_of (admits_plain (by decide) (by decide)) (by decide),
    inStep_of (admits_plain (by decide) (by decide)) (by decide),
    by decide, by decide⟩

/-- A CLEAR of ghost 9 taken with the own one waiting, and with it on the line. -/
theorem test_witness_TableFramesAreApplied_clear :
    let s := { holding (framed 3 (.clear 9)) false with table := haunted.table }
    s.takes ⟨framed 3 (.clear 9), false⟩ [] ∧
    s.inStep (framed 3 (.clear 9)) false ⟨1, 80, 33, 33, 0, false, false⟩ ∧
    (Slot.fresh 0 (.clear 9)).payload = .clear 9 ∧ (Slot.fresh 0 (.clear 9)).state ≠ .onLine ∧
    (onAir (.clear 9) 1).state = .onLine :=
  ⟨takes_of (by decide), inStep_of (admits_plain (by decide) (by decide)) (by decide), by decide⟩

theorem test_witness_OutOfStepFramesAreNotApplied :
    (holding ⟨3, 5, 13, .release 10⟩ false).takes ⟨⟨3, 5, 13, .release 10⟩, false⟩ [] ∧
    (holding ⟨3, 5, 13, .release 10⟩ false).working ∧
    (holding ⟨3, 5, 13, .release 10⟩ false).admits ⟨3, 5, 13, .release 10⟩ false ∧
    group.table.member? 3 = some ⟨1, 80, 33, 33, 0, false, false⟩ ∧
    (1 ≤ ((32773 : Half) - group.table.epoch).toNat ∧ ((32773 : Half) - group.table.epoch).toNat ≤ 32768) ∧
    (1 ≤ (group.table.epoch - (32774 : Half)).toNat ∧ (group.table.epoch - (32774 : Half)).toNat ≤ 32767) ∧
    group.recount.phase = .none ∧ group.recount.guardTimer = none ∧
    { group.recount with guardTimer := some 9, causes := ⟨false, true, false⟩ }.guardTimer ≠ none ∧
    { group.recount with causes := ⟨false, true, false⟩ }.causes.merge = true ∧
    group.recount.causes.merge = false := by
  refine ⟨takes_of (by decide), by decide,
    admits_plain (by decide) (by decide), by decide⟩

theorem test_witness_RecountsOpenWindows :
    (holding (framed 3 (.recount 6 .behind)) false).takes ⟨framed 3 (.recount 6 .behind), false⟩ [] ∧
    (holding (framed 3 (.recount 6 .behind)) false).takesPart ∧
    (holding (framed 3 (.recount 6 .behind)) false).admits (framed 3 (.recount 6 .behind)) false ∧
    group.recount.phase ≠ .window ∧
    (1 ≤ ((6 : Half) - group.table.epoch).toNat ∧ ((6 : Half) - group.table.epoch).toNat ≤ 32768) ∧
    queueOk group.queue ∧ group.recount.count < 4 ∧ 4 ≤ { group.recount with count := 4 }.count := by
  refine ⟨takes_of (by decide), by decide,
    admits_plain (by decide) (by decide), by decide, by decide, ⟨by decide, by decide, ?_⟩, by decide,
    by decide⟩
  intro sl h; cases h

/-- Station 6 in phase WINDOW for target 6. -/
def inWindow (f : Frame) (own : Bool) : State := { holding f own with
  recount := { Recount.reset with
    phase := .window, target := some 6, count := 1, windowTimer := some 500
    ownReport := some ⟨1, 80, 20⟩ } }

theorem test_witness_WindowReportsAreRecorded :
    (inWindow (framed 3 (.report 6 1 80 33 0x1234)) false).takes
      ⟨framed 3 (.report 6 1 80 33 0x1234), false⟩ [] ∧
    (inWindow (framed 3 (.report 6 1 80 33 0x1234)) false).takesPart ∧
    (inWindow (framed 3 (.report 6 1 80 33 0x1234)) false).admits
      (framed 3 (.report 6 1 80 33 0x1234)) false ∧
    (inWindow (framed 3 (.report 6 1 80 33 0x1234)) false).recount.phase = .window ∧
    (inWindow (framed 3 (.report 6 1 80 33 0x1234)) false).recount.target = some 6 ∧
    (1 ≤ ((6 : Half) - 5).toNat ∧ ((6 : Half) - 5).toNat ≤ 32767) ∧
    (1 ≤ ((32774 : Half) - 6).toNat ∧ ((32774 : Half) - 6).toNat ≤ 32768) := by
  refine ⟨takes_of (by decide), by decide,
    ⟨by decide, ?_⟩, by decide, by decide, by decide⟩
  intro d h
  simp only [framed, Body.digest?, Option.some.injEq] at h
  rw [← h]; decide

/-- The window over, with the own report sent and one other report in. -/
def closing : State := { group with
  recount := { Recount.reset with
    phase := .window, target := some 6, count := 1, ownSent := true, closeWaiting := true
    ownReport := some ⟨1, 80, 20⟩, reports := [⟨3, 1, 80, 33⟩] } }

theorem test_witness_ClosesRebuildTheTable :
    closing.resetLow = false ∧ closing.recount.closeWaiting = true ∧ closing.engine.run = none ∧
    closing.table.snapPending = false ∧ closing.recount.ownSent = true ∧
    closing.recount.ownReport = some ⟨1, 80, 20⟩ ∧ closing.recount.target = some 6 ∧
    (closing.recount.reports.map ReportRecord.station).Nodup ∧
    (inWindow (framed 3 .slow) false).recount.windowTimer = some 500 ∧
    { closing.recount with ownSent := false }.ownSent = false ∧ closing.takesPart := by decide

/-- A BEACON in step: in NONE, agreeing or not; in CHECK, with another roster, with station 4 still
unconfirmed, and as the last confirmation. -/
theorem test_witness_TableFramesAreApplied_beacon :
    (holding (beacon3 33 0x58) false).takes ⟨beacon3 33 0x58, false⟩ [] ∧
    (holding (beacon3 33 0x58) false).inStep (beacon3 33 0x58) false ⟨1, 80, 33, 33, 0, false, false⟩ ∧
    (holding (beacon3 33 0x58) false).recount.phase = .none ∧ (33 : Half).toNat = 33 ∧
    (32 : Half).toNat ≠ 33 ∧ queueOk group.queue ∧
    (checking4 (beacon3 33 0x58) true).takes ⟨beacon3 33 0x58, false⟩ [] ∧
    (checking4 (beacon3 33 0x58) true).inStep (beacon3 33 0x58) false ⟨1, 80, 33, 33, 0, false, false⟩ ∧
    (0x58 : BitVec 32) = vectorOf (checking4 (beacon3 33 0x58) true).table.roster ∧
    (0x48 : BitVec 32) ≠ vectorOf (checking4 (beacon3 33 0x48) true).table.roster ∧
    (∀ k, k ≠ (6 : StationNo) → k ≠ 3 → ((checking4 (beacon3 33 0x58) true).table.member? k).all
      fun mk => mk.confirmed && decide (msBetween mk.since 0 ≤ 512)) ∧
    (∃ k, k ≠ (6 : StationNo) ∧ k ≠ 3 ∧ ((checking4 (beacon3 33 0x58) false).table.member? k).any
      fun mk => mk.confirmed == false) := by
  refine ⟨takes_of (by decide),
    inStep_of (admits_digest (by decide) (by decide)) (by decide),
    by decide, by decide, by decide, (queueSound_of (by decide)).1,
    takes_of (by decide),
    inStep_of (admits_digest (by decide) (by decide)) (by decide),
    by decide, by decide, by decide, by decide⟩

/-- The last confirmation, by station 3, with station 4 confirmed but last heard 514 ms ago: T_silence is 512 ms. -/
theorem test_witness_TableFramesAreApplied_silent :
    let s := { checking4 (beacon3 33 0x58) true with now := ms 514 }
    s.takes ⟨beacon3 33 0x58, false⟩ [] ∧
    s.inStep (beacon3 33 0x58) false ⟨1, 80, 33, 33, 0, false, false⟩ ∧
    s.recount.phase = .check ∧ (0x58 : BitVec 32) = vectorOf s.table.roster ∧ queueOk s.queue ∧ s.confirmInv ∧
    (∀ k, k ≠ s.own → k ≠ 3 → (s.table.member? k).all fun mk => mk.confirmed) ∧
    (∃ k, k ≠ s.own ∧ k ≠ 3 ∧ (s.table.member? k).any fun mk =>
      decide (2 ^ s.config.silenceExp.toNat < min 65535 (msBetween mk.since s.now))) ∧
    s.recount.causes.silence = false :=
  ⟨takes_of (by decide), inStep_of (admits_digest (by decide) (by decide)) (by decide), by decide, by decide,
    (queueSound_of (by decide)).1, idle_confirmInv (by decide), by decide, by decide +kernel, by decide⟩

/-- The frames of other stations that are not applied: a REPORT, a BEACON and a table frame of station 9, which
is outside the roster, and a frame heard in LISTEN. -/
theorem test_witness_OutOfStepFramesAreNotApplied_others :
    (holding (framed 9 (.report 5 1 80 0 0x1234)) false).admits (framed 9 (.report 5 1 80 0 0x1234)) false ∧
    (holding (framed 9 (.report 5 1 80 0 0x1234)) false).working ∧ group.table.member? 9 = none ∧
    group.table.member? 3 ≠ none ∧
    (holding (framed 9 (.beacon 0 80 0x200 0x1234)) false).admits (framed 9 (.beacon 0 80 0x200 0x1234)) false ∧
    (framed 9 (.beacon 0 80 0x200 0x1234)).kind = .beacon ∧
    (holding (framed 9 (.demand 80)) false).takes ⟨framed 9 (.demand 80), false⟩ [] ∧
    (holding (framed 9 (.demand 80)) false).admits (framed 9 (.demand 80)) false ∧
    { holding (framed 9 (.demand 80)) false with
      station := { Station.reset with state := .listen } }.station.state = .listen := by
  refine ⟨admits_digest (by decide) (by decide), by decide, by decide, by decide,
    admits_digest (by decide) (by decide), by decide,
    takes_of (by decide),
    admits_plain (by decide) (by decide), by decide⟩

/-- RECOUNTs taken in a window for target 6: a later target, its own, an earlier one; and a stale one in
NONE. -/
theorem test_witness_RecountsOpenWindows_others :
    (inWindow (framed 3 (.recount 7 .behind)) false).takes ⟨framed 3 (.recount 7 .behind), false⟩ [] ∧
    (inWindow (framed 3 (.recount 7 .behind)) false).takesPart ∧
    (inWindow (framed 3 (.recount 7 .behind)) false).admits (framed 3 (.recount 7 .behind)) false ∧
    (inWindow (framed 3 (.recount 7 .behind)) false).recount.phase = .window ∧
    (inWindow (framed 3 (.recount 7 .behind)) false).recount.target = some 6 ∧
    queueSound (inWindow (framed 3 (.recount 7 .behind)) false).queue ∧
    (1 ≤ ((32774 : Half) - 6).toNat ∧ ((32774 : Half) - 6).toNat ≤ 32768) ∧
    (1 ≤ ((6 : Half) - 32775).toNat ∧ ((6 : Half) - 32775).toNat ≤ 32767) ∧
    ((5 : Half) - 5).toNat ≤ 32767 ∧ ((5 : Half) - 32774).toNat ≤ 32767 := by
  refine ⟨takes_of (by decide), by decide,
    ⟨by decide, fun d h => by cases h⟩, by decide, by decide, queueSound_of (by decide), by decide,
    by decide, by decide, by decide⟩

/-- Station 6 alone in the table. -/
def alone (x : StationState) : State := { at6 x with
  table := { Table.reset with entries := (List.replicate 32 Entry.absent).set 6 (share 20 34) } }

/-- Station 6 in `s` with a run of work `w`, whose moment has passed. -/
def lateRun (s : State) (w : RunWork) : State := { s.startRun w with now := s.now + 600 }

theorem lateRun_reads (s : State) (w : RunWork) :
    ∃ r, (lateRun s w).engine.run = some r ∧ (lateRun s w).runReads r ∧ r.work = w ∧
      r.started < (lateRun s w).now :=
  ⟨_, rfl, ⟨rfl, rfl, rfl, rfl, rfl⟩, rfl, Nat.lt_add_of_pos_right (by decide)⟩

/-- With `lateRun_reads`: the end of a run of the table, of a close with others and alone, of a lone formation. -/
theorem test_witness_RunsShareTheBudgetByWeight :
    (∀ w, (lateRun group w).resetLow = false ∧ (lateRun group w).table.entries.length = 32 ∧
      (lateRun group w).takesPart ∧ (∀ n m, (lateRun group w).table.member? n = some m → 1 ≤ m.weight) ∧
      (∀ n, ((lateRun group w).table.member? n).all fun m => m.confirmed == false) ∧
      ∃ k, k ≠ group.own ∧ ((lateRun group w).table.member? k).any fun m => m.confirmed == false) ∧
    (∀ k, k ≠ (alone .listen).own → (lateRun (alone .listen) .close).table.member? k = none) ∧
    (lateRun (alone .listen) .loneFormation).takesPart ∧ (alone .listen).table.entries.length = 32 ∧
    (lateRun (alone .member) .close).takesPart ∧ (alone .listen).queue = [] ∧
    (alone .listen).ring.lost = false ∧ (∀ k, (alone .listen).table.isGhost k = false) ∧
    { group.ring with lost := true }.lost = true := by
  have h : ∀ n, (group.table.member? n).all fun m => decide (1 ≤ m.weight) := by decide
  refine ⟨fun w => ⟨rfl, rfl, Or.inr rfl, fun n m hm => ?_, ?_, 3, by decide, rfl⟩, by decide⟩
  · have := h n
    rw [show group.table.member? n = some m from hm] at this
    simpa using this
  · exact (by decide : ∀ n, (group.table.member? n).all fun m => m.confirmed == false)

/-- Station 6 in phase CHECK with its check timer running. -/
def checking : State := { group with
  recount := { Recount.reset with phase := .check, count := 1, checkTimer := some 900 } }

/-- Station 6 with its guard running and a MISMATCH held by it. -/
def guarded : State := { group with
  recount := { Recount.reset with guardTimer := some 900, causes := ⟨true, false, false⟩ } }

/-- The table of section 1.8 with station 3 silent. -/
def quiet : State := { group with
  table := (table18.setEntry 3 (.member ⟨1, 80, 33, 33, 0, true, false⟩)) }

/-- Station 6 with its guard over at 900, the causes `p` held by it, and a stranger last heard at `x`. -/
def heldBy (p : PendingCauses) (x : Option Time) (s : State) : State := { s with
  now := 900, recount := { Recount.reset with guardTimer := some 900, causes := p, lastNonMember := x } }

theorem test_witness_CheckAndGuardTimersRequestRecounts :
    checking.recount.checkTimer = some 900 ∧ checking.station.state = .member ∧
    checking.recount.phase = .check ∧ guarded.recount.guardTimer = some 900 ∧
    guarded.recount.causes.mismatch = true ∧
    (heldBy ⟨false, true, false⟩ (some 0) group).recount.causes.merge = true ∧
    max (heldBy ⟨false, true, false⟩ (some 0) group).now 900 - 0 ≤ ms (2 ^ group.config.silenceExp.toNat) ∧
    (heldBy ⟨false, false, true⟩ none quiet).recount.causes.silence = true ∧
    (∃ n, n ≠ quiet.own ∧ (quiet.table.member? n).any fun m => m.silent) ∧
    (∀ n, n ≠ group.own → (group.table.member? n).all fun m => m.silent == false) ∧
    (heldBy ⟨false, false, false⟩ none group).recount.causes.mismatch = false := by decide +kernel

/-- Station 6 at the end of listening. -/
def listened (heard : Bool) : State := { at6 .listen with
  station := { Station.reset with state := .listen, heard := heard, listenWaiting := true } }

theorem test_witness_ListeningEndsInJoinOrAlone :
    (listened true).station.listenWaiting = true ∧ (listened true).engine.run = none ∧
    (listened true).table.snapPending = false ∧ (listened true).station.heard = true ∧
    (listened true).station.state = .listen ∧ (listened true).recount.phase = .none ∧
    (listened true).queue = [] ∧ (listened false).station.heard = false ∧
    { (listened true).recount with highest := some 7 }.highest = some 7 ∧
    { (listened true).station with listenTimer := some 7 }.listenTimer = some 7 := by decide

theorem test_witness_SilenceAndBeaconTimers :
    group.settled ∧ group.table.member? 4 = some ⟨1, 80, 33, 33, 0, false, false⟩ ∧
    group.table.entries.length = 32 ∧ quiet.settled ∧
    (∀ k, k ≠ quiet.own → k ≠ 4 → (quiet.table.member? k).all Member.silent) ∧
    group.table.member? 3 = some ⟨1, 80, 33, 33, 0, false, false⟩ ∧
    ¬ msBetween 0 (max group.now (0 + ms (2 ^ group.config.silenceExp.toNat + 1))) ≤
      2 ^ group.config.silenceExp.toNat / 2 ∧ group.recount.lastNonMember = none ∧
    2 ^ group.config.silenceExp.toNat / 2 ≤ 32767 ∧
    (table18.setEntry 3 (.member ⟨1, 80, 33, 33, 514000, false, false⟩)).member? 3 =
      some ⟨1, 80, 33, 33, 514000, false, false⟩ ∧
    msBetween 514000 (max group.now (0 + ms (2 ^ group.config.silenceExp.toNat + 1))) ≤
      2 ^ group.config.silenceExp.toNat / 2 ∧
    max group.now (0 + ms (2 ^ group.config.silenceExp.toNat + 1)) - 514000 ≤
      ms (2 ^ group.config.silenceExp.toNat / 2) ∧
    group.recount.guardTimer = none ∧ guarded.recount.guardTimer ≠ none ∧
    guarded.recount.causes.silence = false ∧
    { guarded.recount with causes := ⟨false, false, true⟩ }.causes.silence = true ∧ group.queue.length < 4 ∧
    { group with queue := [Slot.fresh 0 (.beacon false)] }.queue = [Slot.fresh 0 (.beacon false)] ∧
    { group.station with beaconTimer := some 8 }.beaconTimer = some 8 := by decide +kernel

theorem test_witness_HoldAndGhostTimers :
    { (at6 .isolated).station with holdTimer := some 10 }.holdTimer = some 10 ∧
    (table18.setEntry 9 (.ghost ⟨5, some 10⟩)).ghost? 9 = some ⟨5, some 10⟩ ∧
    (table18.setEntry 9 (.ghost ⟨5, some 10⟩)).entries.length = 32 ∧ group.settled ∧ group.queue = [] ∧
    (∀ k, k ≠ 9 → (table18.setEntry 9 (.ghost ⟨5, some 10⟩)).isGhost k = false) := by decide +kernel

theorem test_witness_DeadlinesCutOff :
    yielding.resetLow = false ∧ yielding.grant.lower = some ⟨.yield, 10, 1000⟩ ∧
    yielding.station.state ≠ .isolated ∧ (lowering .isolated).grant.lower = some ⟨.isolate, 0, 1000⟩ ∧
    (lowering .isolated).station.state = .isolated ∧
    (lowering .isolated).station.holdTimer = none := by decide

theorem test_witness_FlowHoldTimers :
    { filled 7 with slowTimer := some 40 }.slowTimer = some 40 ∧ group.station.state = .member ∧
    6 < (filled 7).entries.length ∧ (filled 6).entries.length ≤ 6 ∧ group.queue = [] ∧
    group.gOwn ≤ group.grant.applied ∧
    (Slot.fresh 0 (.claim 5)).state ≠ .onLine ∧ 4 < (Slot.fresh 0 (.claim 5)).payload.standing ∧
    { group.ring with deferral := some 50 }.deferral = some 50 := by
  decide

theorem test_witness_FlowHoldTimers_queue :
    queueSound [Slot.fresh 0 (.release 10), Slot.fresh 0 (.recount 6 .lost), Slot.fresh 0 (.demand 80),
      Slot.fresh 0 (.claim 5)] := queueSound_of (by decide)

theorem test_witness_StepsKeepTheQueueWithinItsSlots :
    State.reset.queueInv ∧ State.reset.lineInv ∧ step State.reset = .next (State.reset.withNow 1) := by
  refine ⟨⟨by decide, by decide, ?_⟩, ⟨by decide, by decide, ?_, by decide⟩, rfl⟩
  · intro sl h; cases h
  · intro f h; cases h

/-- Station 6 of section 1.8 with its RELEASE of A 10 on the line and a DEMAND of H 79 waiting. -/
def lowered : State := { holds6 79 10 with
  queue := [onAir (.release 10) 1, Slot.fresh 0 (.demand 79)]
  line := ⟨.busy, 0, 2, .sending (framed 6 (.release 10)), 0⟩ }

theorem test_witness_StepsKeepTheAppliedGrantWithinBounds :
    group.grantInv ∧ (lowering .isolated).grantInv ∧ (lowering .barred).grantInv ∧ lowered.grantInv ∧
    lowered.queueInv ∧ lowered.lineInv ∧ lowered.resetInv ∧ lowered.appliedInv := by
  refine ⟨?_, ?_, ?_, ?_, (queueSound_of (by decide)).1, ⟨by decide, by decide, fun f h => rfl, by decide⟩,
    (fun h => by cases h), ⟨by decide, by decide, ?_, ?_, ?_, (fun o h => by cases h), idle_phaseInv (by decide),
      (fun r h => by cases h), fun _ => by decide⟩⟩
  iterate 4 (unfold State.grantInv; decide)
  · intro e h; cases h
  · intro f h
    cases h
    exact ⟨by simp only [State.coversA, framed]; decide, by decide⟩
  · unfold State.slotCurrent; decide

theorem test_witness_StepsKeepTheBudgetShared : group.shareInv ∧ group.weightInv := by
  have h : ∀ n, (group.table.member? n).all fun m =>
      decide (m.entitlement ≤ m.demand ∧ 1 ≤ m.weight) := by decide
  have hm : ∀ n m, group.table.member? n = some m → m.entitlement ≤ m.demand ∧ 1 ≤ m.weight := by
    intro n m hm
    have := h n
    rw [hm] at this
    simpa using this
  refine ⟨⟨by decide, by decide, fun _ => ⟨by decide, fun n m k => (hm n m k).1, by decide⟩, ?_⟩,
    ⟨fun n m k => (hm n m k).2, ?_, ?_, ?_, ?_, ?_, by decide⟩⟩
  · intro r k; cases k
  · intro e k; cases k
  · intro f k; cases k
  · intro sl k; cases k
  · intro r k; cases k
  · intro o k; cases k

theorem test_witness_StepsKeepTheStoresAndCounts :
    State.reset.storeInv ∧ State.reset.countInv ∧ State.reset.counterInv ∧ State.reset.resetInv ∧
    State.reset.readInv ∧ State.reset.confirmInv := by
  refine ⟨?_, ?_, ?_, fun _ => rfl, ?_, idle_confirmInv (by decide)⟩
  · unfold State.storeInv; decide
  · unfold State.countInv; decide
  · unfold State.counterInv Counters.inRange; decide
  · unfold State.readInv; decide

theorem test_witness_TableFramesAreApplied_confirmInv :
    (holding (beacon3 33 0x58) false).confirmInv ∧ (checking4 (beacon3 33 0x58) true).confirmInv ∧
    (checking4 (beacon3 33 0x58) false).confirmInv ∧ (checking4 (beacon3 33 0x48) true).confirmInv :=
  ⟨idle_confirmInv (by decide), idle_confirmInv (by decide), idle_confirmInv (by decide),
    idle_confirmInv (by decide)⟩

end Sys2Proof.Tests
end

section
/-! The Table Unit takes a frame: what TAKE_FRAME comes to by the checks of R11, and what the taking of a frame
notes before the frame is judged (01_the_budget_table.md sections 1.1 to 1.3). -/

namespace Sys2Proof.Machine

/-! ### TAKE_FRAME by the checks of R10 and R11 -/

/-- Outside a reset a command takes effect (log 8). -/
theorem outOfReset_of_released {s : State} (h : s.resetLow = false) (t : State) : s.outOfReset t = t :=
  if_neg (by simp [h])

/-- The Table Unit that can take a frame works on it and then looks at the standing conditions. -/
theorem exec_takeFrame_of_takes {s : State} {e : RingEntry} {rest : List RingEntry} (h : s.takes e rest) :
    exec .takeFrame s = .next
      (((s.withRing { s.ring with entries := rest }).process e.frame e.own).lookAfter s false) := by
  obtain ⟨hlow, hrun, hsnap, hclose, hlisten, hring⟩ := h
  have hmay : s.mayTake := ⟨hrun, hsnap, hclose, hlisten⟩
  simp only [exec, execTakeFrame, outOfReset_of_released hlow, if_pos hmay, hring]

/-- The first two checks of R11 are those for a duplicate and for a conflict. -/
theorem admits_iff (s : State) (f : Frame) (own : Bool) :
    s.admits f own ↔ ¬ s.duplicate f own ∧ ¬ s.conflict f := by
  unfold State.admits State.duplicate State.conflict
  cases f.body.digest? <;> simp

theorem process_of_not_takesPart (s : State) (f : Frame) (own : Bool) (h : ¬ s.takesPart) :
    s.process f own = s := if_pos h

/-- A duplicate or a conflict bars a station that takes part (R11). -/
theorem process_of_not_admits (s : State) (f : Frame) (own : Bool) (hp : s.takesPart) (h : ¬ s.admits f own) :
    s.process f own = s.enterBarred := by
  have hbar : s.requestBarred = s.enterBarred := if_pos (Or.inl hp)
  unfold State.process
  rw [if_neg (not_not_intro hp), hbar]
  by_cases hd : s.duplicate f own
  · rw [if_pos hd]
  · rw [if_neg hd, if_pos]
    by_contra hc
    exact h ((admits_iff s f own).2 ⟨hd, hc⟩)

/-- The state in which an admitted frame is judged: the frame off the ring, its epochs, its sender and, in LISTEN,
its having been heard noted (R2, R12, R13, R70). -/
def State.noted (s : State) (f : Frame) (rest : List RingEntry) : State :=
  (((s.withRing { s.ring with entries := rest }).noteEpochs f).noteSender f.sender).noteHeard f.sender

theorem process_of_admits (s : State) (f : Frame) (own : Bool) (hp : s.takesPart) (ha : s.admits f own) :
    s.process f own = (((s.noteEpochs f).noteSender f.sender).noteHeard f.sender).dispose f own := by
  obtain ⟨hd, hc⟩ := (admits_iff s f own).1 ha
  unfold State.process
  rw [if_neg (not_not_intro hp), if_neg hd, if_neg hc]

/-- An admitted frame is noted and then judged. -/
theorem exec_takeFrame_of_admits {s : State} {f : Frame} {own : Bool} {rest : List RingEntry}
    (h : s.takes ⟨f, own⟩ rest) (hp : s.takesPart) (ha : s.admits f own) :
    exec .takeFrame s = .next (((s.noted f rest).dispose f own).lookAfter s false) := by
  rw [exec_takeFrame_of_takes h]
  exact congrArg (fun t : State => Host.Outcome.next (t.lookAfter s false))
    (process_of_admits (s.withRing { s.ring with entries := rest }) f own hp ha)

/-! ### Event flags (R184) -/

theorem bit_getLsbD (e g : Event) : e.bit.getLsbD (g.rank - 1) = decide (g = e) := by
  cases e <;> cases g <;> decide

/-- A raised event sets its own flag and no other. -/
theorem raise_flagSet (s : State) (e g : Event) :
    (s.raise e).events.flagSet g ↔ g = e ∨ s.events.flagSet g := by
  simp only [EventUnit.flagSet, State.raise, withEvents_events, BitVec.getLsbD_or, bit_getLsbD, Bool.or_eq_true,
    decide_eq_true_eq]
  exact or_comm

@[simp] theorem raise_counters_mask (s : State) (e : Event) :
    (s.raise e).events.counters = s.events.counters ∧ (s.raise e).events.mask = s.events.mask := ⟨rfl, rfl⟩

/-! ### Entry to BARRED (R64, R114) -/

/-- Grant Control lowers the station to nothing (R64). -/
theorem isolateLower_loweredToNothing (s : State) : s.loweredToNothing s.isolateLower := by
  have hraise : ∀ u : State, (u.raise .lowerRequest).events.flagSet .lowerRequest := fun u =>
    (raise_flagSet u _ _).2 (.inl rfl)
  refine ⟨by simp, by simp, by simp, ?_⟩
  rcases Nat.eq_zero_or_pos s.grant.applied with h0 | hpos
  · simp [State.isolateLower, h0]
  · have hne : s.grant.applied ≠ 0 := Nat.pos_iff_ne_zero.1 hpos
    cases hl : s.grant.lower with
    | none =>
      simp [State.isolateLower, hl, hne, hpos, State.createLower, State.after, State.tYield, State.config,
        hraise]
    | some r =>
      by_cases hr : r.target = 0
      · simp [State.isolateLower, hl, hne, hr, State.after, State.tYield, State.config]
      · simp [State.isolateLower, hl, hne, hpos, hr, State.after, State.tYield, State.config, hraise]

theorem isolateLower_keeps_flag (s : State) (e : Event) (h : s.events.flagSet e) :
    s.isolateLower.events.flagSet e := by
  have hraise : ∀ u : State, u.events = s.events → (u.raise .lowerRequest).events.flagSet e := fun u hu =>
    (raise_flagSet u _ _).2 (.inr (hu ▸ h))
  unfold State.isolateLower
  split
  · exact h
  · split
    · exact hraise _ rfl
    · dsimp only
      split
      · exact h
      · exact hraise _ rfl

/-- What R64 does to the queue is at most to withdraw a waiting CLAIM (R52). -/
theorem isolateLower_queue_subset (s : State) : s.isolateLower.queue ⊆ s.queue := by
  unfold State.isolateLower
  split
  · exact List.Subset.refl _
  · split
    · exact List.filter_subset_self _
    · dsimp only
      split <;> exact List.Subset.refl _

/-- Entry to BARRED: the clear, the event, and the lower request of R64. -/
theorem enterBarred_effects (s : State) :
    s.clearedFrom s.enterBarred ∧ s.enterBarred.events.flagSet .barred ∧ s.loweredToNothing s.enterBarred := by
  refine ⟨⟨?_, ?_, ?_, ?_, fun sl hsl => flush_slots (isolateLower_queue_subset _ hsl), ?_⟩, ?_, ?_⟩
  · simp [State.enterBarred, Table.cleared]
  · simp [State.enterBarred]
  · simp [State.enterBarred]
  · simp [State.enterBarred, Ring.cleared]
  · simp [State.enterBarred]
  · exact isolateLower_keeps_flag _ _ ((raise_flagSet _ _ _).2 (.inl rfl))
  · have h := isolateLower_loweredToNothing ((s.enter .barred).raise .barred)
    simpa [State.loweredToNothing, State.enterBarred, raise_flagSet, State.config] using h

end Sys2Proof.Machine
end

section
/-! TAKE_SNAPSHOT and SNAPSHOT_TAKEN (R28, R29, R175), and the frames that bar a station (R11, R112 to R114). -/

namespace Sys2Proof.Machine

/-- A TAKE_SNAPSHOT that can be taken (R28, R172, R175). -/
theorem exec_takeSnapshot_of_collecting {s : State} (hc : s.collecting) :
    exec .takeSnapshot s = .next
      (if ¬ s.loaded then s.afterAnswer 0 .state []
      else if s.table.snapPending = true then s.afterAnswer 0 .ok s.snapTarget
      else if s.tableIdle then s.takeSnapshotNow.afterAnswer 0 .ok s.snapTarget
      else (s.withTable { s.table with snapPending := true }).afterAnswer 0 .ok s.snapTarget) :=
  congrArg Host.Outcome.next (if_pos hc)

/-- Settles O17: the request's row is chosen by `snapPending` and the engine, and what is copied is what R29
lists by `snapshotNow_copiedTo`. -/
theorem snapshotsAreTakenWhenIdle : Obligations.SnapshotsAreTakenWhenIdle := by
  intro s
  refine ⟨s.snapshotNow, snapshotNow_copiedTo s, fun hc hloading hfault => ⟨_, rfl, ?_, ?_, ?_⟩, ?_, ?_⟩
  · intro hp
    rw [exec_takeSnapshot_of_collecting hc, if_neg (not_not_intro ⟨hloading, hfault⟩), if_pos hp]
    rfl
  · intro hp hrun
    rw [exec_takeSnapshot_of_collecting hc, if_neg (not_not_intro ⟨hloading, hfault⟩), if_neg (by simp [hp]),
      if_neg hrun]
    rfl
  · intro hp hrun
    rw [exec_takeSnapshot_of_collecting hc, if_neg (not_not_intro ⟨hloading, hfault⟩), if_neg (by simp [hp]),
      if_pos hrun]
    rfl
  · intro hlow hp hrun
    simp only [exec, execSnapshotTaken, outOfReset_of_released hlow]
    rw [if_pos ⟨hp, hrun⟩]
    rfl
  · intro hc hstate
    rw [exec_takeSnapshot_of_collecting hc, if_pos (fun hl => hstate.elim hl.1 hl.2)]

/-- Settles O42: a frame that R11 does not admit leads to the entry to BARRED where the station takes part, and is
otherwise only taken off the ring. -/
theorem strangeNumberOrDigestBars : Obligations.StrangeNumberOrDigestBars := by
  intro s e rest ht
  have hexec := exec_takeFrame_of_takes ht
  refine ⟨fun hp ha => ?_, fun hp => ?_⟩
  · have hbar := process_of_not_admits (s.withRing { s.ring with entries := rest }) e.frame e.own hp ha
    rw [hbar, lookAfter_of_not_member _ _ _ (by simp)] at hexec
    obtain ⟨hclear, hflag, hlower⟩ := enterBarred_effects (s.withRing { s.ring with entries := rest })
    refine ⟨_, hexec, ?_, enterBarred_station _, hclear, hflag, hlower⟩
    simp [State.sameOutside, State.sameBeside]
  · have hid := process_of_not_takesPart (s.withRing { s.ring with entries := rest }) e.frame e.own hp
    have hlook := lookAfter_of_not_member (s.withRing { s.ring with entries := rest }) s false
      (fun h => hp (.inr h))
    rw [hid, hlook] at hexec
    exact hexec

end Sys2Proof.Machine
end

section
/-! The Transmit Queue under one queueing request or withdrawal, and under the look at the standing conditions that
ends a command (R144 to R146, R152, R154). -/

namespace Sys2Proof.Machine

/-! ### One queueing request (R145, R146) -/

theorem requested_kind {p : Payload} {sl : Slot} (h : sl.kind = p.kind) : (sl.requested p).kind = p.kind := by
  unfold Slot.requested
  split
  · exact h
  · rfl

theorem requested_state (p : Payload) (sl : Slot) : (sl.requested p).state = sl.state := by
  unfold Slot.requested; split <;> rfl

/-- A slot of the queue after a queueing request was there before, or is of the kind asked for. -/
theorem mem_enqueue {now : Time} {p : Payload} {q : List Slot} {sl : Slot} (h : sl ∈ enqueue now p q) :
    sl ∈ q ∨ sl.kind = p.kind := by
  have hfresh : ∀ l : List Slot, l ⊆ q → sl ∈ l ++ [Slot.fresh now p] → sl ∈ q ∨ sl.kind = p.kind := by
    intro l hl hm
    rcases List.mem_append.1 hm with hm | hm
    · exact .inl (hl hm)
    · exact .inr (by rw [List.mem_singleton.1 hm]; rfl)
  unfold enqueue at h
  split at h
  · obtain ⟨o, ho, rfl⟩ := List.mem_map.1 h
    split
    · exact .inr (requested_kind ‹_›)
    · exact .inl ho
  · split at h
    · exact hfresh q (List.Subset.refl _) h
    · split at h
      · exact .inl h
      · exact hfresh _ (List.filter_subset_self _) h

/-- A request for another kind brings no waiting frame of kind `k`. -/
theorem noneWaits_enqueue {now : Time} {p : Payload} {q : List Slot} {k : Kind} (h : noneWaits q k)
    (hk : p.kind ≠ k) : noneWaits (enqueue now p q) k := by
  intro sl hsl hkind
  rcases mem_enqueue hsl with hsl | hp
  · exact h sl hsl hkind
  · exact absurd (hp.symm.trans hkind) hk

theorem noneWaits_filter {q : List Slot} {k : Kind} (h : noneWaits q k) (f : Slot → Bool) :
    noneWaits (q.filter f) k := fun sl hsl => h sl (List.mem_filter.1 hsl).1

/-- After a withdrawal of kind `k` no frame of that kind waits. -/
theorem noneWaits_withdrawWaiting (s : State) (k : Kind) : noneWaits (s.withdrawWaiting k).queue k := by
  intro sl hsl hk
  have hkept := (List.mem_filter.1 hsl).2
  by_contra hw
  exact (of_decide_eq_true hkept) ⟨hk, hw⟩

/-! ### Displacement (R146) -/

/-- What `displaced` makes of its choice so far at slot `sl`. -/
def betterOf (p : Payload) (best : Option Slot) (sl : Slot) : Option Slot :=
  if sl.waiting ∧ p.standing < sl.payload.standing then
    match best with
    | none => some sl
    | some b => if b.payload.standing < sl.payload.standing then some sl else some b
  else best

theorem displaced_eq_foldl (p : Payload) (q : List Slot) : displaced p q = q.foldl (betterOf p) none := rfl

theorem betterOf_cases (p : Payload) (best : Option Slot) (sl : Slot) :
    betterOf p best sl = best ∨ betterOf p best sl = some sl ∧ p.standing < sl.payload.standing := by
  unfold betterOf
  split
  · have hlower := (‹_ ∧ _› : _ ∧ p.standing < sl.payload.standing).2
    cases best with
    | none => exact .inr ⟨rfl, hlower⟩
    | some b =>
      dsimp only
      split
      · exact .inr ⟨rfl, hlower⟩
      · exact .inl rfl
  · exact .inl rfl

/-- The choice never falls in number. -/
theorem betterOf_of_some (p : Payload) (b sl : Slot) :
    ∃ c, betterOf p (some b) sl = some c ∧ b.payload.standing ≤ c.payload.standing := by
  unfold betterOf
  split
  · dsimp only
    split
    · exact ⟨sl, rfl, Nat.le_of_lt ‹_›⟩
    · exact ⟨b, rfl, le_rfl⟩
  · exact ⟨b, rfl, le_rfl⟩

theorem betterOf_of_lower (p : Payload) (best : Option Slot) {sl : Slot} (hw : sl.waiting)
    (h : p.standing < sl.payload.standing) :
    ∃ c, betterOf p best sl = some c ∧ sl.payload.standing ≤ c.payload.standing := by
  unfold betterOf
  rw [if_pos ⟨hw, h⟩]
  cases best with
  | none => exact ⟨sl, rfl, le_rfl⟩
  | some b =>
    dsimp only
    split
    · exact ⟨sl, rfl, le_rfl⟩
    · exact ⟨b, rfl, Nat.le_of_not_lt ‹_›⟩

theorem foldl_betterOf_mem {p : Payload} {d : Slot} : ∀ {q : List Slot} {best : Option Slot},
    q.foldl (betterOf p) best = some d → d ∈ q ∧ p.standing < d.payload.standing ∨ best = some d := by
  intro q
  induction q with
  | nil => exact fun h => .inr h
  | cons a q ih =>
    intro best h
    rcases ih h with ⟨hq, hlower⟩ | hbest
    · exact .inl ⟨List.mem_cons_of_mem _ hq, hlower⟩
    · rcases betterOf_cases p best a with heq | ⟨heq, hlower⟩ <;> rw [heq] at hbest
      · exact .inr hbest
      · obtain rfl := Option.some.inj hbest
        exact .inl ⟨List.mem_cons_self .., hlower⟩

theorem foldl_betterOf_of_some (p : Payload) : ∀ (q : List Slot) (b : Slot),
    ∃ d, q.foldl (betterOf p) (some b) = some d ∧ b.payload.standing ≤ d.payload.standing := by
  intro q
  induction q with
  | nil => exact fun b => ⟨b, rfl, le_rfl⟩
  | cons a q ih =>
    intro b
    obtain ⟨c, hc, hbc⟩ := betterOf_of_some p b a
    obtain ⟨d, hd, hcd⟩ := ih c
    exact ⟨d, by rw [List.foldl_cons, hc, hd], hbc.trans hcd⟩

theorem foldl_betterOf_of_lower {p : Payload} {sl : Slot} (hw : sl.waiting)
    (h : p.standing < sl.payload.standing) : ∀ {q : List Slot} (best : Option Slot), sl ∈ q →
    ∃ d, q.foldl (betterOf p) best = some d ∧ sl.payload.standing ≤ d.payload.standing := by
  intro q
  induction q with
  | nil => intro best hm; cases hm
  | cons a q ih =>
    intro best hm
    rcases List.mem_cons.1 hm with rfl | hm
    · obtain ⟨c, hc, hle⟩ := betterOf_of_lower p best hw h
      obtain ⟨d, hd, hcd⟩ := foldl_betterOf_of_some p q c
      exact ⟨d, by rw [List.foldl_cons, hc, hd], hle.trans hcd⟩
    · exact ih _ hm

/-- The slot that makes room is one of the queue, of lower standing (R146). -/
theorem mem_of_displaced {p : Payload} {q : List Slot} {d : Slot} (h : displaced p q = some d) :
    d ∈ q ∧ p.standing < d.payload.standing :=
  (foldl_betterOf_mem h).resolve_right (by simp)

/-- A waiting slot of lower standing makes room, or one of lower standing still does (R146). -/
theorem displaced_of_lower {p : Payload} {q : List Slot} {sl : Slot} (hm : sl ∈ q) (hw : sl.waiting)
    (h : p.standing < sl.payload.standing) :
    ∃ d, displaced p q = some d ∧ sl.payload.standing ≤ d.payload.standing :=
  foldl_betterOf_of_lower hw h none hm

/-! ### A queue within its slots (R144, R149) -/

theorem standing_le_one {p : Payload} (h : p.standing ≤ 1) : p.kind = .release ∨ p.kind = .recount := by
  cases p with
  | release => exact .inl rfl
  | recount => exact .inr rfl
  | beacon close => cases close <;> simp [Payload.standing] at h
  | _ => simp [Payload.standing] at h

/-- A full queue within its slots has a waiting frame of a standing below RELEASE and RECOUNT: three of its four
frames wait, and they are of different kinds. -/
theorem exists_waiting_lower {q : List Slot} (h : queueSound q) (hfull : 4 ≤ q.length) :
    ∃ sl ∈ q, sl.waiting ∧ 1 < sl.payload.standing := by
  by_contra hnone
  obtain ⟨⟨-, hkinds, -⟩, hone⟩ := h
  have hlow : ∀ k ∈ (q.filter fun sl => !(sl.state == .onLine)).map Slot.kind, k ∈ [Kind.release, .recount] := by
    intro k hk
    obtain ⟨sl, hsl, rfl⟩ := List.mem_map.1 hk
    obtain ⟨hmem, hwait⟩ := List.mem_filter.1 hsl
    have hstanding : sl.payload.standing ≤ 1 := by
      by_contra hgt
      exact hnone ⟨sl, hmem, by simpa using hwait, by omega⟩
    simpa [Slot.kind] using standing_le_one hstanding
  have hnodup : ((q.filter fun sl => !(sl.state == .onLine)).map Slot.kind).Nodup :=
    hkinds.sublist (List.filter_sublist.map _)
  have htwo := (hnodup.subperm hlow).length_le
  have hsum := (List.filter_append_perm (fun sl : Slot => sl.state == .onLine) q).length_eq
  simp only [List.length_append, List.length_map, List.length_cons, List.length_nil] at hsum htwo
  omega

/-- A full queue within its slots makes room for every RELEASE and RECOUNT. -/
theorem displaced_of_high {p : Payload} {q : List Slot} (h : queueSound q) (hfull : 4 ≤ q.length)
    (hp : p.standing ≤ 1) : displaced p q ≠ none := by
  obtain ⟨sl, hm, hw, hlow⟩ := exists_waiting_lower h hfull
  obtain ⟨d, hd, -⟩ := displaced_of_lower hm hw (Nat.lt_of_le_of_lt hp hlow)
  simp [hd]

/-- It makes none by freeing one of those. -/
theorem displaced_standing {p : Payload} {q : List Slot} {d : Slot} (h : queueSound q) (hfull : 4 ≤ q.length)
    (hd : displaced p q = some d) : 1 < d.payload.standing := by
  obtain ⟨sl, hm, hw, hlow⟩ := exists_waiting_lower h hfull
  by_cases hp : p.standing < sl.payload.standing
  · obtain ⟨c, hc, hle⟩ := displaced_of_lower hm hw hp
    obtain rfl := Option.some.inj (hd.symm.trans hc)
    exact Nat.lt_of_lt_of_le hlow hle
  · exact Nat.lt_trans (Nat.lt_of_lt_of_le hlow (Nat.le_of_not_lt hp)) (mem_of_displaced hd).2

/-- A part of a queue within its slots is one. -/
theorem queueSound_sublist {q r : List Slot} (h : queueSound q) (hr : r.Sublist q) : queueSound r := by
  obtain ⟨⟨hlen, hkinds, hrange⟩, hone⟩ := h
  exact ⟨⟨hr.length_le.trans hlen, hkinds.sublist (hr.map _), fun sl hm => hrange sl (hr.subset hm)⟩,
    (hr.filter _).length_le.trans hone⟩

/-- So is one with a further frame of a kind that it lacks, if there is a place for it. -/
theorem queueSound_append_fresh {q : List Slot} {now : Time} {p : Payload} (h : queueSound q)
    (hplace : q.length < 4) (hkind : ∀ sl ∈ q, sl.kind ≠ p.kind) : queueSound (q ++ [Slot.fresh now p]) := by
  obtain ⟨⟨-, hkinds, hrange⟩, hone⟩ := h
  refine ⟨⟨by simp; omega, ?_, fun sl hm => ?_⟩, ?_⟩
  · rw [List.map_append]
    refine List.nodup_append.2 ⟨hkinds, by simp, fun k hk k' hk' => ?_⟩
    obtain ⟨sl, hsl, rfl⟩ := List.mem_map.1 hk
    simp only [List.map_cons, List.map_nil, List.mem_singleton] at hk'
    exact fun heq => hkind sl hsl (heq.trans hk')
  · rcases List.mem_append.1 hm with hm | hm
    · exact hrange sl hm
    · obtain rfl := List.mem_singleton.1 hm
      exact ⟨by simp [Slot.fresh], by simp [Slot.fresh], fun r hr => by cases hr⟩
  · simpa [List.filter_append, Slot.fresh] using hone

theorem slotOf_eq_none {k : Kind} {q : List Slot} : slotOf k q = none ↔ ∀ sl ∈ q, sl.kind ≠ k := by
  simp [slotOf]

theorem freeSlot_length_lt {q : List Slot} {d : Slot} (h : d ∈ q) : (freeSlot d.kind q).length < q.length :=
  List.length_filter_lt_length_iff_exists.2 ⟨d, h, by simp⟩

/-- A request that reaches the slot of its kind changes no kind and no slot state. -/
theorem queueSound_updateSlot_requested {q : List Slot} (p : Payload) (h : queueSound q) :
    queueSound (updateSlot p.kind (Slot.requested p) q) := by
  obtain ⟨⟨hlen, hkinds, hrange⟩, hone⟩ := h
  have hkind : ∀ sl : Slot, (if sl.kind = p.kind then sl.requested p else sl).kind = sl.kind := by
    intro sl
    split
    · exact (requested_kind ‹_›).trans (Eq.symm ‹_›)
    · rfl
  have hstate : ∀ sl : Slot, (if sl.kind = p.kind then sl.requested p else sl).state = sl.state := by
    intro sl
    split
    · exact requested_state p sl
    · rfl
  refine ⟨⟨by simpa [updateSlot] using hlen, ?_, fun sl hm => ?_⟩, ?_⟩
  · have : (updateSlot p.kind (Slot.requested p) q).map Slot.kind = q.map Slot.kind := by
      simp [updateSlot, Function.comp_def, hkind]
    rw [this]; exact hkinds
  · obtain ⟨o, ho, rfl⟩ := List.mem_map.1 hm
    obtain ⟨hattempts, hbackoff, hfollow⟩ := hrange o ho
    split
    · unfold Slot.requested
      split
      · refine ⟨hattempts, hbackoff, fun r hr => ?_⟩
        dsimp only at hr
        split at hr
        · exact hfollow r hr
        · obtain rfl := Option.some.inj hr
          exact ⟨Eq.symm ‹o.kind = p.kind›, ‹o.state = .onLine›⟩
      · exact ⟨hattempts, hbackoff, fun r hr => absurd (hfollow r hr).2 ‹¬ _›⟩
    · exact ⟨hattempts, hbackoff, hfollow⟩
  · rw [updateSlot, List.filter_map, List.length_map]
    simpa [Function.comp_def, hstate] using hone

/-- A queueing request keeps the queue within its slots. -/
theorem queueSound_enqueue {q : List Slot} (now : Time) (p : Payload) (h : queueSound q) :
    queueSound (enqueue now p q) := by
  unfold enqueue
  cases hslot : slotOf p.kind q with
  | some sl => exact queueSound_updateSlot_requested p h
  | none =>
    have hkind := slotOf_eq_none.1 hslot
    dsimp only
    split
    · exact queueSound_append_fresh h ‹_› hkind
    · cases hd : displaced p q with
      | none => exact h
      | some d =>
        have hlt := freeSlot_length_lt (mem_of_displaced hd).1
        have hlen := h.1.1
        exact queueSound_append_fresh (queueSound_sublist h List.filter_sublist) (by omega)
          fun sl hm => hkind sl (List.filter_subset_self _ hm)

/-! ### An own RECOUNT in the queue (R72, R145) -/

/-- In a queue within its slots the slot that carries `r` is of the kind of `r`. -/
theorem kind_of_carried {q : List Slot} {sl : Slot} (h : queueSound q) (hm : sl ∈ q) :
    (sl.followOn.getD sl.payload).kind = sl.kind := by
  cases hf : sl.followOn with
  | none => rfl
  | some r => exact ((h.1.2.2 sl hm).2.2 r hf).1

/-- A RECOUNT just asked for is the latest value of its slot: a queue within its slots has room for it. -/
theorem carries_enqueue_recount {q : List Slot} (now : Time) (x : Half) (c : Cause) (h : queueSound q) :
    carries (enqueue now (.recount x c) q) (.recount x c) := by
  unfold enqueue
  cases hslot : slotOf (Payload.recount x c).kind q with
  | some sl =>
    have hkind : sl.kind = (Payload.recount x c).kind := by
      have := List.find?_some hslot
      simpa using this
    have hm : sl ∈ q := List.mem_of_find?_eq_some hslot
    refine ⟨sl.requested (.recount x c), List.mem_map.2 ⟨sl, hm, if_pos hkind⟩, ?_⟩
    unfold Slot.requested
    split
    · simp
    · cases hf : sl.followOn with
      | none => simp
      | some r => exact absurd ((h.1.2.2 sl hm).2.2 r hf).2 ‹_›
  | none =>
    dsimp only
    split
    · exact ⟨Slot.fresh now _, by simp, rfl⟩
    · cases hd : displaced (.recount x c) q with
      | none => exact absurd hd (displaced_of_high h (Nat.le_of_not_lt ‹_›) (by simp [Payload.standing]))
      | some d => exact ⟨Slot.fresh now _, by simp, rfl⟩

/-- A request for another kind leaves a RECOUNT in a queue within its slots. -/
theorem carries_enqueue_other {q : List Slot} {r p : Payload} (now : Time) (h : queueSound q)
    (hr : r.kind = .recount) (hp : p.kind ≠ .recount) (hc : carries q r) : carries (enqueue now p q) r := by
  obtain ⟨sl, hm, hsl⟩ := hc
  have hkind : sl.kind = .recount := (kind_of_carried h hm).symm.trans (hsl ▸ hr)
  refine ⟨sl, ?_, hsl⟩
  unfold enqueue
  split
  · exact List.mem_map.2 ⟨sl, hm, if_neg (by rw [hkind]; exact hp.symm)⟩
  · split
    · exact List.mem_append_left _ hm
    · split
      · exact hm
      · rename_i d hd
        have hlow := displaced_standing h (Nat.le_of_not_lt ‹_›) hd
        have hne : sl.kind ≠ d.kind := by
          intro heq
          have hd : d.payload.kind = .recount := heq.symm.trans hkind
          cases hb : d.payload <;> simp [hb, Payload.kind] at hd
          simp [hb, Payload.standing] at hlow
        exact List.mem_append_left _ (List.mem_filter.2 ⟨hm, by simpa using hne⟩)

/-- So does a withdrawal of another kind. -/
theorem carries_withdrawWaiting {s : State} {r : Payload} {k : Kind} (h : queueSound s.queue)
    (hr : r.kind = .recount) (hk : k ≠ .recount) (hc : carries s.queue r) :
    carries (s.withdrawWaiting k).queue r := by
  obtain ⟨sl, hm, hsl⟩ := hc
  have hkind : sl.kind = .recount := (kind_of_carried h hm).symm.trans (hsl ▸ hr)
  exact ⟨sl, List.mem_filter.2 ⟨hm, decide_eq_true fun hw => hk (hw.1.symm.trans hkind)⟩, hsl⟩

theorem queueSound_withdrawWaiting {s : State} (k : Kind) (h : queueSound s.queue) :
    queueSound (s.withdrawWaiting k).queue := queueSound_sublist h List.filter_sublist

/-! ### The look at the standing conditions, step by step (R154; log 10) -/

/-- A frame that the look at the standing conditions asks for: a RELEASE, SLOW or DEMAND, a CLEAR of the lowest
expired ghost with no CLEAR queued, or the CLAIM of R51. -/
def State.wants (s : State) (p : Payload) : Prop :=
  p.kind = .release ∨ p.kind = .slow ∨ p.kind = .demand ∨
  (¬ s.holds .clear ∧ ∃ n, s.table.lowestExpired = some n ∧ p = .clear n) ∨
  (s.mayClaim ∧ p = .claim (BitVec.ofNat 16 (s.claimTarget - s.gOwn)))

/-- It asks for no RECOUNT, and for a CLAIM by R51 alone. -/
theorem kind_of_wants {s : State} {p : Payload} (h : s.wants p) :
    p.kind ≠ .recount ∧ (p.kind = .claim → s.mayClaim) := by
  rcases h with h | h | h | ⟨-, n, -, rfl⟩ | ⟨hmay, rfl⟩
  · simp [h]
  · simp [h]
  · simp [h]
  · simp [Payload.kind]
  · exact ⟨by simp [Payload.kind], fun _ => hmay⟩

/-- `P` is kept by everything the look at the standing conditions can do: it asks for frames, withdraws a waiting
RELEASE or DEMAND, and ends a flow hold. -/
structure LookClosed (P : State → Prop) : Prop where
  enqueue : ∀ u p, P u → u.wants p → P (u.enqueue p)
  withdraw : ∀ u k, k = .release ∨ k = .demand → P u → P (u.withdrawWaiting k)
  flowOff : ∀ u, P u → P (u.withRing { u.ring with flow := .off })

section
variable {P : State → Prop} (hP : LookClosed P) {u : State} (h : P u)
include hP h

theorem keep_induction {p : Payload} (hp : u.wants p) : P (u.keep p) := by
  unfold State.keep
  split
  · exact hP.enqueue u p h hp
  · split
    · exact h
    · exact hP.enqueue u p h hp

theorem releaseAgent_induction : P u.releaseAgent := by
  unfold State.releaseAgent
  split
  · exact keep_induction hP h (.inl rfl)
  · exact h

theorem slowAgent_induction : P u.slowAgent := by
  unfold State.slowAgent
  split
  · split
    · exact hP.enqueue u _ h (.inr (.inl rfl))
    · exact hP.flowOff u h
  · exact h

theorem demandAgent_induction : P u.demandAgent := by
  unfold State.demandAgent
  split
  · exact keep_induction hP h (.inr (.inr (.inl rfl)))
  · exact h

theorem clearAgent_induction : P u.clearAgent := by
  unfold State.clearAgent
  split
  · rename_i hclear
    split
    · exact h
    · exact hP.enqueue u _ h (.inr (.inr (.inr (.inl ⟨hclear.2, _, ‹_›, rfl⟩))))
  · exact h

theorem claimAgent_induction : P u.claimAgent := by
  unfold State.claimAgent
  split
  · exact hP.enqueue u _ h (.inr (.inr (.inr (.inr ⟨‹_›, rfl⟩))))
  · exact h

theorem lookAgain_induction : P u.lookAgain := by
  unfold State.lookAgain
  split
  · exact claimAgent_induction hP (clearAgent_induction hP (demandAgent_induction hP
      (slowAgent_induction hP (releaseAgent_induction hP h))))
  · exact h

theorem lookChanged_induction (b : State) : P (u.lookChanged b) := by
  have hstep : ∀ (c : Prop) [Decidable c] (v w : State), P v → P w → P (if c then v else w) := by
    intro c _ v w hv hw
    split
    · exact hv
    · exact hw
  have h1 := hstep (u.releaseItems = b.releaseItems) _ _ h (releaseAgent_induction hP h)
  have h2 := hstep (u.demandItems = b.demandItems) _ _ h1 (demandAgent_induction hP h1)
  have h3 := hstep (u.clearItems = b.clearItems) _ _ h2 (clearAgent_induction hP h2)
  exact hstep (u.claimItems = b.claimItems) _ _ h3 (claimAgent_induction hP h3)

theorem releaseMet_induction (b : State) : P (u.releaseMet b) := by
  unfold State.releaseMet
  split
  · exact hP.withdraw u _ (.inl rfl) h
  · exact h

theorem demandMet_induction (b : State) : P (u.demandMet b) := by
  unfold State.demandMet
  split
  · split
    · exact hP.withdraw _ _ (.inr rfl) (hP.enqueue u _ h (.inr (.inr (.inl rfl))))
    · exact hP.withdraw u _ (.inr rfl) h
  · exact h

/-- What the look at the end of a command does is a run of such steps. -/
theorem lookAfter_induction (b : State) (freed : Bool) : P (u.lookAfter b freed) := by
  have hmet := demandMet_induction hP (releaseMet_induction hP h b) b
  unfold State.lookAfter
  dsimp only
  split
  · split
    · exact lookAgain_induction hP hmet
    · split
      · exact lookAgain_induction hP (lookChanged_induction hP hmet b)
      · exact lookChanged_induction hP hmet b
  · exact h

end

/-! ### What the look leaves of CLAIM and RECOUNT -/

/-- One of the conditions of R51 fails that a lower request, DIVERGED or a recount asked for sets. -/
def State.claimHeld (s : State) : Prop :=
  s.grant.lower ≠ none ∨ s.table.diverged = true ∨ s.recount.requested = true ∨ ¬ s.recount.causes.empty

theorem not_mayClaim_of_claimHeld {s : State} (h : s.claimHeld) : ¬ s.mayClaim := by
  rintro ⟨-, -, hdiverged, hrequested, hcauses, -, hlower, -⟩
  rcases h with h | h | h | h
  · exact h hlower
  · rw [hdiverged] at h; cases h
  · rw [hrequested] at h; cases h
  · exact h hcauses

/-- While one does, the look brings no waiting CLAIM (R51). -/
theorem lookAfter_noneWaits_claim {s : State} (b : State) (freed : Bool) (hheld : s.claimHeld)
    (hq : noneWaits s.queue .claim) : noneWaits (s.lookAfter b freed).queue .claim := by
  have hclosed : LookClosed fun u => u.claimHeld ∧ noneWaits u.queue .claim := by
    refine ⟨fun u p ⟨hu, hw⟩ hp => ⟨by simpa [State.claimHeld] using hu, noneWaits_enqueue hw
        fun hk => not_mayClaim_of_claimHeld hu ((kind_of_wants hp).2 hk)⟩,
      fun u k _ ⟨hu, hw⟩ => ⟨by simpa [State.claimHeld] using hu, noneWaits_filter hw _⟩,
      fun u ⟨hu, hw⟩ => ⟨by simpa [State.claimHeld] using hu, hw⟩⟩
  exact (lookAfter_induction hclosed ⟨hheld, hq⟩ b freed).2

/-- The look leaves a RECOUNT in a queue within its slots (R146). -/
theorem lookAfter_carries_recount {s : State} {r : Payload} (b : State) (freed : Bool) (hr : r.kind = .recount)
    (hq : queueSound s.queue) (hc : carries s.queue r) : carries (s.lookAfter b freed).queue r := by
  have hclosed : LookClosed fun u => queueSound u.queue ∧ carries u.queue r := by
    refine ⟨fun u p ⟨hu, hw⟩ hp =>
        ⟨queueSound_enqueue _ _ hu, carries_enqueue_other _ hu hr (kind_of_wants hp).1 hw⟩,
      fun u k hk ⟨hu, hw⟩ => ⟨queueSound_withdrawWaiting k hu, carries_withdrawWaiting hu hr ?_ hw⟩,
      fun u hu => hu⟩
    rcases hk with rfl | rfl <;> simp
  exact (lookAfter_induction hclosed ⟨hq, hc⟩ b freed).2

/-- With the queue as it was, no item of RELEASE, DEMAND or CLEAR changed and no CLAIM to be made, the look changes
nothing. -/
theorem lookAfter_of_claimHeld {s b : State} (hr : s.releaseItems = b.releaseItems)
    (hd : s.demandItems = b.demandItems) (hc : s.clearItems = b.clearItems) (hheld : s.claimHeld)
    (hq : s.queue = b.queue) : s.lookAfter b false = s := by
  have hclaim : s.claimAgent = s := if_neg (not_mayClaim_of_claimHeld hheld)
  have hchanged : s.lookChanged b = s := by simp [State.lookChanged, hr, hd, hc, hclaim]
  have hfreed : ∀ v : State, s.queue = v.queue → ¬ s.freedSince v := by
    intro v hv h
    obtain ⟨sl, hm, hsl⟩ := List.any_eq_true.1 h
    have hnone : slotOf sl.kind s.queue = none := by simpa using (Bool.and_eq_true_iff.1 hsl).2
    exact slotOf_eq_none.1 hnone sl (hv ▸ hm) rfl
  have hmet := met_of_unchanged s b (congrArg (fun x => x.2.1) hr) (congrArg (fun x => x.2.1) hd)
    (congrArg (fun x => x.2.2) hr) (congrArg (fun x => x.2.2) hd)
  unfold State.lookAfter
  simp only [hmet, hchanged, hfreed b hq, hfreed s rfl, Bool.false_eq_true, or_self, if_false, ite_self]

end Sys2Proof.Machine
end

section
/-! The entries under a change of one member, and the state in which an admitted frame is judged (R1, R2, R5, R11
to R13, R70). -/

namespace Sys2Proof.Machine

/-! ### One member's entry (R1, R5) -/

theorem member?_eq_some {t : Table} {n : StationNo} {m : Member} :
    t.member? n = some m ↔ t.entryAt n = .member m := by
  unfold Table.member?
  cases t.entryAt n <;> simp

theorem isMember_eq_true {t : Table} {n : StationNo} : t.isMember n = true ↔ ∃ m, t.member? n = some m :=
  Option.isSome_iff_exists

theorem lt_length_of_member {t : Table} {n : StationNo} {m : Member} (h : t.member? n = some m) :
    n.val < t.entries.length := by
  by_contra hlt
  have := member?_eq_some.1 h
  simp [Table.entryAt, List.getD_eq_getElem?_getD, hlt] at this

theorem updateMember_of_member {t : Table} {n : StationNo} {m : Member} (h : t.member? n = some m)
    (f : Member → Member) : t.updateMember n f = t.setEntry n (.member (f m)) := by
  simp only [Table.updateMember, member?_eq_some.1 h]

theorem updateMember_of_no_member {t : Table} {n : StationNo} (h : t.member? n = none) (f : Member → Member) :
    t.updateMember n f = t := by
  unfold Table.member? at h
  unfold Table.updateMember
  cases he : t.entryAt n <;> simp_all

/-- A change of a member touches the entries alone. -/
theorem updateMember_eq (t : Table) (n : StationNo) (f : Member → Member) :
    t.updateMember n f = { t with entries := (t.updateMember n f).entries } := by
  unfold Table.updateMember
  split <;> rfl

@[simp] theorem updateMember_values (t : Table) (n : StationNo) (f : Member → Member) :
    (t.updateMember n f).epoch = t.epoch ∧ (t.updateMember n f).tsn = t.tsn ∧
    (t.updateMember n f).suspect = t.suspect ∧ (t.updateMember n f).diverged = t.diverged ∧
    (t.updateMember n f).entValid = t.entValid ∧ (t.updateMember n f).starved = t.starved := by
  rw [updateMember_eq]; simp

theorem updateMember_entryAt_of_ne (t : Table) {n k : StationNo} (h : k ≠ n) (f : Member → Member) :
    (t.updateMember n f).entryAt k = t.entryAt k := by
  unfold Table.updateMember
  split
  · rw [setEntry_entryAt, if_neg fun hk => h hk.1.symm]
  · rfl

theorem updateMember_member? {t : Table} {n : StationNo} {m : Member} (h : t.member? n = some m)
    (f : Member → Member) : (t.updateMember n f).member? n = some (f m) := by
  rw [updateMember_of_member h, member?_eq_some, setEntry_entryAt, if_pos ⟨rfl, lt_length_of_member h⟩]

theorem sumOf_set (g : Entry → Nat) (e : Entry) : ∀ (l : List Entry) (i : Nat), i < l.length →
    sumOf g (l.set i e) + g (l.getD i .absent) = sumOf g l + g e := by
  intro l
  induction l with
  | nil => intro i hi; simp at hi
  | cons a l ih =>
    intro i hi
    cases i with
    | zero => simp [sumOf]; omega
    | succ i =>
      have := ih i (by simpa using hi)
      simp only [sumOf, List.set_cons_succ, List.foldr_cons, List.getD_cons_succ] at this ⊢
      omega

/-- The sum follows the member's grant (R5). -/
theorem updateMember_sum {t : Table} {n : StationNo} {m : Member} (h : t.member? n = some m)
    (f : Member → Member) : (t.updateMember n f).sum + m.grant = t.sum + (f m).grant := by
  have hset := sumOf_set Entry.held (.member (f m)) t.entries n.val (lt_length_of_member h)
  have hheld : t.entries.getD n.val .absent = .member m := member?_eq_some.1 h
  rw [hheld] at hset
  rw [updateMember_of_member h]
  exact hset

theorem updateMember_sum_of_grant (t : Table) (n : StationNo) {f : Member → Member}
    (hf : ∀ m, (f m).grant = m.grant) : (t.updateMember n f).sum = t.sum := by
  cases h : t.member? n with
  | none => rw [updateMember_of_no_member h]
  | some m =>
    have := updateMember_sum h f
    rw [hf] at this
    omega

/-! ### What the taking of an admitted frame notes (R2, R12, R13, R70) -/

/-- The table with the sender's age at 0 and its silent flag clear; a sender that is no member changes none. -/
theorem noteSender_table (s : State) (n : StationNo) :
    (s.noteSender n).table = s.table.updateMember n fun m => m.heardAt s.now := by
  cases h : s.table.member? n with
  | none =>
    rw [noteSender_table_of_no_member s (by simp [Table.isMember, h]), updateMember_of_no_member h]
  | some m =>
    have hm : s.table.isMember n = true := isMember_eq_true.2 ⟨m, h⟩
    simp only [State.noteSender, if_pos hm]
    rfl

section
variable (s : State) (f : Frame) (rest : List RingEntry)

@[simp] theorem noted_frame :
    (s.noted f rest).now = s.now ∧ (s.noted f rest).resetLow = s.resetLow ∧
    (s.noted f rest).csnHigh = s.csnHigh ∧ (s.noted f rest).loader = s.loader ∧
    (s.noted f rest).line = s.line ∧ (s.noted f rest).queue = s.queue ∧
    (s.noted f rest).ring = { s.ring with entries := rest } ∧ (s.noted f rest).engine = s.engine ∧
    (s.noted f rest).grant = s.grant ∧ (s.noted f rest).port = s.port ∧
    (s.noted f rest).events = s.events ∧ (s.noted f rest).pending = s.pending := by
  simp [State.noted]

@[simp] theorem noted_table :
    (s.noted f rest).table = s.table.updateMember f.sender fun m => m.heardAt s.now := by
  simp [State.noted, noteSender_table]

theorem noteEpochs_recount (s : State) (f : Frame) :
    (s.noteEpochs f).recount = { s.recount with highest := (s.noteEpochs f).recount.highest } := by
  unfold State.noteEpochs
  split <;> rfl

theorem noteSender_recount (s : State) (n : StationNo) :
    (s.noteSender n).recount =
      { s.recount with lastNonMember := (s.noteSender n).recount.lastNonMember } := by
  unfold State.noteSender
  (repeat' split) <;> rfl

/-- Of the Recount Controller only the highest epoch heard and the time of a stranger's frame move. -/
theorem noted_recount :
    (s.noted f rest).recount = { s.recount with
      highest := (s.noted f rest).recount.highest
      lastNonMember := (s.noted f rest).recount.lastNonMember } := by
  have hepochs := noteEpochs_recount (s.withRing { s.ring with entries := rest }) f
  have hsender := noteSender_recount ((s.withRing { s.ring with entries := rest }).noteEpochs f) f.sender
  simp only [State.noted, noteHeard_frame]
  rw [hsender, hepochs]
  rfl

@[simp] theorem noted_recount_kept :
    (s.noted f rest).recount.phase = s.recount.phase ∧
    (s.noted f rest).recount.requested = s.recount.requested ∧
    (s.noted f rest).recount.count = s.recount.count ∧
    (s.noted f rest).recount.guardTimer = s.recount.guardTimer ∧
    (s.noted f rest).recount.causes = s.recount.causes := by
  rw [noted_recount]; simp

/-- The sender's age and silent flag are the only ones to move (R2). -/
theorem noted_onlyHeard : s.onlyHeard (s.noted f rest) f.sender := by
  intro k
  have h := noteSender_onlyHeard s f.sender k
  have htable : (s.noted f rest).table = (s.noteSender f.sender).table := by
    rw [noted_table, noteSender_table]
  rw [htable, h]

theorem noted_notApplied : s.notApplied (s.noted f rest) f.sender rest := by
  refine ⟨by simp [State.sameOutside, State.sameBeside], noted_onlyHeard s f rest, ?_⟩
  simp [updateMember_sum_of_grant, Member.heardAt]

variable {s f rest}

/-- A member's frame gives no time to the non-members (R107). -/
theorem noted_recount_of_member {m : Member} (hm : s.table.member? f.sender = some m) :
    (s.noted f rest).recount = { s.recount with highest := (s.noted f rest).recount.highest } := by
  have hmember : ((s.withRing { s.ring with entries := rest }).noteEpochs f).table.isMember f.sender = true := by
    simpa using isMember_eq_true.2 ⟨m, hm⟩
  have hepochs := noteEpochs_recount (s.withRing { s.ring with entries := rest }) f
  simp only [State.noted, noteHeard_frame, State.noteSender, if_pos hmember, withTable_recount]
  exact hepochs

/-- A stranger's does, but for the own station's (R107). -/
theorem noted_lastNonMember (hm : s.table.member? f.sender = none) (hown : f.sender ≠ s.own) :
    (s.noted f rest).recount.lastNonMember = some s.now := by
  have hmember : ¬ ((s.withRing { s.ring with entries := rest }).noteEpochs f).table.isMember f.sender = true := by
    simp [Table.isMember, hm]
  have hsender : f.sender ≠ ((s.withRing { s.ring with entries := rest }).noteEpochs f).own := by
    simpa [State.own] using hown
  simp only [State.noted, noteHeard_frame, State.noteSender, if_neg hmember, if_neg hsender]
  simp

variable (s f rest)

/-- In LISTEN with no window open a frame of another station has been heard (R13). -/
theorem noted_station : (s.noted f rest).station =
    if s.station.state = .listen ∧ s.recount.phase = .none ∧ f.sender ≠ s.own then
      { s.station with heard := true } else s.station := by
  have hphase : ((s.withRing { s.ring with entries := rest }).noteEpochs f).recount.phase = s.recount.phase := by
    rw [noteEpochs_recount]; rfl
  have hcond : (((s.withRing { s.ring with entries := rest }).noteEpochs f).noteSender f.sender).recount.phase =
      s.recount.phase := by
    rw [noteSender_recount]; exact hphase
  have hown : (((s.withRing { s.ring with entries := rest }).noteEpochs f).noteSender f.sender).own = s.own := by
    simp [State.own]
  unfold State.noted State.noteHeard
  simp only [hcond, hown, noteSender_frame, noteEpochs_frame, withRing_station]
  split <;> simp

variable {s}

theorem noted_station_of_member (h : s.station.state = .member) : (s.noted f rest).station = s.station := by
  rw [noted_station, if_neg (by simp [h])]

theorem noted_working (h : s.working) : (s.noted f rest).working := by
  obtain ⟨hstate, hphase⟩ := h
  exact ⟨by rw [noted_station_of_member f rest hstate]; exact hstate, by simpa using hphase⟩

end

/-! ### What a frame that is not applied leaves as it was (R2) -/

section
variable {s t : State} {n : StationNo} {rest : List RingEntry}

theorem sameOutside_trans {u : State} (h : s.sameOutside t) (h' : t.sameOutside u) : s.sameOutside u := by
  obtain ⟨hnow, hlow, hcsn, hpending, hloader, hline, hport⟩ := h
  obtain ⟨hnow', hlow', hcsn', hpending', hloader', hline', hport'⟩ := h'
  exact ⟨hnow'.trans hnow, hlow'.trans hlow, hcsn'.trans hcsn, hpending'.trans hpending,
    hloader'.trans hloader, hline'.trans hline, hport'.trans hport⟩

/-- Later changes outside the entries, the ring's frames, the engine and Grant Control do not matter. -/
theorem notApplied_of_same {u : State} (h : s.notApplied t n rest) (houtside : t.sameOutside u)
    (htable : u.table = { t.table with diverged := u.table.diverged }) (hring : u.ring.entries = t.ring.entries)
    (hengine : u.engine = t.engine) (hgrant : u.grant = t.grant) : s.notApplied u n rest := by
  obtain ⟨hbeside, honly, hentries, hepoch, htsn, hsuspect, hsum, hrun, hG⟩ := h
  have hentryAt : ∀ k, u.table.entryAt k = t.table.entryAt k := fun k => by rw [htable]; rfl
  have hsum' : u.table.sum = t.table.sum := by rw [htable]; rfl
  refine ⟨sameOutside_trans hbeside houtside, fun k => (hentryAt k).trans (honly k), hring.trans hentries, ?_, ?_,
    ?_, hsum'.trans hsum, hengine.trans hrun, hgrant.trans hG⟩
  all_goals rw [htable]; assumption

theorem notApplied_lookAfter (h : s.notApplied t n rest) (b : State) (freed : Bool) :
    s.notApplied (t.lookAfter b freed) n rest :=
  notApplied_of_same h (by simp [State.sameOutside, State.sameBeside]) (by simp) (by simp) (by simp) (by simp)

theorem notApplied_giveCause (h : s.notApplied t n rest) (c : Cause) : s.notApplied (t.giveCause c) n rest :=
  notApplied_of_same h (by simp [State.sameOutside, State.sameBeside]) (by simp) (by simp) (by simp) (by simp)

theorem notApplied_countStale (h : s.notApplied t n rest) : s.notApplied t.countStale n rest :=
  notApplied_of_same h (by simp [State.sameOutside, State.sameBeside]) (by simp) (by simp) (by simp) (by simp)

@[simp] theorem setDiverged_table (s : State) : s.setDiverged.table = { s.table with diverged := true } := by
  unfold State.setDiverged; split <;> simp

@[simp] theorem mismatch_table (s : State) : s.mismatch.table = { s.table with diverged := true } := by
  simp [State.mismatch]

theorem notApplied_mismatch (h : s.notApplied t n rest) : s.notApplied t.mismatch n rest :=
  notApplied_of_same h (by simp [State.sameOutside, State.sameBeside]) (by simp) (by simp) (by simp) (by simp)

theorem onlyHeard_member? (h : s.onlyHeard t n) (k : StationNo) :
    t.table.member? k = (s.table.member? k).map fun m => if k = n then m.heardAt s.now else m := by
  unfold Table.member?
  rw [h k]
  cases s.table.entryAt k <;> rfl

theorem onlyHeard_expired (h : s.onlyHeard t n) : t.table.expired = s.table.expired := by
  funext k
  unfold Table.expired Table.ghost?
  rw [h k]
  cases s.table.entryAt k <;> rfl

/-- The items of RELEASE, DEMAND and CLEAR have not changed (R27, R56, R57). -/
theorem notApplied_items (h : s.notApplied t n rest) (hstate : t.station.state = s.station.state)
    (hphase : t.recount.phase = s.recount.phase) :
    t.releaseItems = s.releaseItems ∧ t.demandItems = s.demandItems ∧ t.clearItems = s.clearItems := by
  obtain ⟨⟨-, -, -, -, hloader, -⟩, honly, -, -, -, -, -, -, hgrant⟩ := h
  have hown : t.ownMember? = s.ownMember?.map fun m => if s.own = n then m.heardAt s.now else m := by
    unfold State.ownMember? State.own
    rw [hloader]
    exact onlyHeard_member? honly _
  have hg : t.gOwn = s.gOwn := by
    unfold State.gOwn
    rw [hown]
    cases s.ownMember? <;> simp [apply_ite, Member.heardAt]
  have hd : t.dOwn = s.dOwn := by
    unfold State.dOwn
    rw [hown]
    cases s.ownMember? <;> simp [apply_ite, Member.heardAt]
  have hexpired : t.table.lowestExpired = s.table.lowestExpired := by
    unfold Table.lowestExpired
    rw [onlyHeard_expired honly]
  simp [State.releaseItems, State.demandItems, State.clearItems, State.settled, hstate, hphase, hgrant, hg, hd,
    hexpired]

end

end Sys2Proof.Machine
end

section
/-! What the Recount Controller makes of a cause (R71 to R74), up to the end of the command. -/

namespace Sys2Proof.Machine

section
variable {s u : State}

/-! ### A recount asked for (R72) -/

@[simp] theorem requestRecount_recount (u : State) (c : Cause) :
    (u.requestRecount c).recount = { u.recount with requested := true } := by
  unfold State.requestRecount
  dsimp only
  split
  · rename_i h
    rw [enqueue_frame u _ |>.2.2.2.2.2.2.2.2.2.1, ← h]
  · simp

/-- With requested newly set no CLAIM waits (R52, R72). -/
theorem requestRecount_noneWaits_of_new (c : Cause) (h : u.recount.requested = false) :
    noneWaits (u.requestRecount c).queue .claim := by
  unfold State.requestRecount
  rw [h]
  exact noneWaits_withdrawWaiting _ _

theorem requestRecount_noneWaits (c : Cause) (h : noneWaits u.queue .claim) :
    noneWaits (u.requestRecount c).queue .claim := by
  have henqueue : ∀ p : Payload, p.kind ≠ .claim → noneWaits (u.enqueue p).queue .claim := fun p hp =>
    noneWaits_enqueue h hp
  unfold State.requestRecount
  dsimp only
  split
  · exact henqueue _ (by simp [Payload.kind])
  · exact noneWaits_withdrawWaiting _ _

/-- The queue carries the RECOUNT asked for (R72). -/
theorem requestRecount_carries (c : Cause) (h : queueSound u.queue) :
    queueSound (u.requestRecount c).queue ∧
    carries (u.requestRecount c).queue (.recount u.nextTarget (if u.leaveQueued then .leave else c)) := by
  have hsound : ∀ p : Payload, queueSound (u.enqueue p).queue := fun p => queueSound_enqueue _ p h
  unfold State.requestRecount
  dsimp only
  split
  · exact ⟨hsound _, carries_enqueue_recount _ _ _ h⟩
  · exact ⟨queueSound_withdrawWaiting _ (hsound _),
      carries_withdrawWaiting (hsound _) rfl (by simp) (carries_enqueue_recount _ _ _ h)⟩

/-- A slot with a LEAVE in it is of kind RECOUNT (R144). -/
theorem kind_of_isLeave {q : List Slot} {sl : Slot} (h : queueSound q) (hm : sl ∈ q)
    (hleave : sl.payload.isLeave = true ∨ sl.followOn.any Payload.isLeave = true) : sl.kind = .recount := by
  have hkind : ∀ p : Payload, p.isLeave = true → p.kind = .recount := by
    intro p hp
    cases p <;> simp_all [Payload.isLeave, Payload.kind]
  rcases hleave with hleave | hleave
  · exact hkind _ hleave
  · cases hf : sl.followOn with
    | none => simp [hf] at hleave
    | some p => exact ((h.1.2.2 sl hm).2.2 p hf).1.symm.trans (hkind p (by simpa [hf] using hleave))

/-- So a withdrawal of CLAIM leaves it (R92). -/
theorem leaveQueued_withdrawWaiting_claim (h : queueSound u.queue) :
    (u.withdrawWaiting .claim).leaveQueued ↔ u.leaveQueued := by
  simp only [State.leaveQueued, List.any_eq_true, Bool.or_eq_true]
  constructor
  · rintro ⟨sl, hm, hleave⟩
    exact ⟨sl, List.filter_subset_self _ hm, hleave⟩
  · rintro ⟨sl, hm, hleave⟩
    refine ⟨sl, List.mem_filter.2 ⟨hm, decide_eq_true fun hw => ?_⟩, hleave⟩
    have := hw.1.symm.trans (kind_of_isLeave h hm hleave)
    cases this

/-- What is asked for stands at the end of the command (R72). -/
theorem requestRecount_asksFor (c : Cause) (b : State) (freed : Bool)
    (hrequested : u.recount.requested = s.recount.requested)
    (hqueue : queueSound s.queue → queueSound u.queue ∧ (u.leaveQueued ↔ s.leaveQueued)) :
    s.asksFor ((u.requestRecount c).lookAfter b freed) c := by
  refine ⟨by simp, fun hnew => ?_, fun hsound x hx => ?_⟩
  · exact lookAfter_noneWaits_claim b freed (by simp [State.claimHeld])
      (requestRecount_noneWaits_of_new c (hrequested.trans hnew))
  · obtain ⟨hu, hleave⟩ := hqueue hsound
    obtain ⟨hsound', hcarries⟩ := requestRecount_carries c hu
    have htarget : u.nextTarget = x + 1 := by
      have hhighest : u.recount.highest = some x := by simpa using hx
      simp [State.nextTarget, hhighest]
    rw [htarget] at hcarries
    simp only [← hleave]
    exact lookAfter_carries_recount b freed rfl hsound' hcarries

/-! ### A cause given to the Recount Controller (R71, R74) -/

@[simp] theorem addPending_recount (u : State) (c : Cause) :
    (u.addPending c).recount = { u.recount with causes := u.recount.causes.add c } := by
  unfold State.addPending
  split
  · rename_i h
    rw [h]
  · simp

/-- A MEMBER in phase NONE or CHECK holds a guarded cause while its guard runs, and else asks for a recount. -/
theorem giveCause_of_working (h : u.working) (c : Cause) : u.giveCause c =
    if u.recount.phase = .none ∧ c.guarded = true ∧ u.recount.guardTimer ≠ none then u.addPending c
    else u.requestRecount c := by
  obtain ⟨hstate, hphase⟩ := h
  unfold State.giveCause
  rw [hstate]
  cases hp : u.recount.phase with
  | none => simp
  | window => exact absurd hp hphase
  | check => simp

/-- In every state a cause is held, asked for or dropped. -/
theorem giveCause_cases (u : State) (c : Cause) :
    u.giveCause c = u.addPending c ∨ u.giveCause c = u.requestRecount c ∨ u.giveCause c = u := by
  unfold State.giveCause
  (repeat' split) <;> simp

@[simp] theorem giveCause_recount_kept (u : State) (c : Cause) :
    (u.giveCause c).recount.phase = u.recount.phase ∧ (u.giveCause c).recount.count = u.recount.count ∧
    (u.giveCause c).recount.highest = u.recount.highest ∧
    (u.giveCause c).recount.lastNonMember = u.recount.lastNonMember := by
  rcases giveCause_cases u c with h | h | h <;> rw [h] <;> simp

theorem giveCause_noneWaits (c : Cause) (h : noneWaits u.queue .claim) :
    noneWaits (u.giveCause c).queue .claim := by
  rcases giveCause_cases u c with hgive | hgive | hgive <;> rw [hgive]
  · unfold State.addPending
    split
    · exact h
    · exact noneWaits_withdrawWaiting _ _
  · exact requestRecount_noneWaits c h
  · exact h

theorem addPending_noneWaits_of_new {c : Cause} (h : u.recount.causes.add c ≠ u.recount.causes) :
    noneWaits (u.addPending c).queue .claim := by
  rw [addPending_of_new u h]
  exact noneWaits_withdrawWaiting _ _

/-! ### A MISMATCH (R8, R14) -/

theorem setDiverged_queue (u : State) : u.setDiverged.queue =
    if u.table.diverged = true then u.queue else (u.withdrawWaiting .claim).queue := by
  unfold State.setDiverged; split <;> rfl

theorem leaveQueued_of_queue {v : State} (h : u.queue = v.queue) : u.leaveQueued ↔ v.leaveQueued := by
  unfold State.leaveQueued; rw [h]

/-- A MISMATCH is found at the end of the command in which it was (R14, R71, R74). -/
theorem mismatch_mismatchFound {f : Frame} {rest : List RingEntry} (hw : s.working) :
    s.mismatchFound ((s.noted f rest).mismatch.lookAfter s false) := by
  have hstation := noted_station_of_member f rest hw.1
  have hworking : (s.noted f rest).setDiverged.countMismatch.working := by
    obtain ⟨hstate, hphase⟩ := hw
    exact ⟨by simpa [hstation] using hstate, by simpa using hphase⟩
  have hheld : (s.noted f rest).mismatch.claimHeld := .inr (.inl (by simp))
  have hqueue : (s.noted f rest).setDiverged.countMismatch.queue =
      if s.table.diverged = true then s.queue else (s.withdrawWaiting .claim).queue := by
    simp [setDiverged_queue, State.withdrawWaiting]
  refine ⟨by simp, fun hnew => lookAfter_noneWaits_claim _ _ hheld (giveCause_noneWaits _ ?_), ?_, ?_, ?_⟩
  · rw [hqueue, hnew]
    exact noneWaits_withdrawWaiting s .claim
  · simp [State.mismatch, State.countMismatch, State.withCounters, bump]
  · intro hphase hguard
    have hgive : (s.noted f rest).mismatch = (s.noted f rest).setDiverged.countMismatch.addPending .mismatch := by
      rw [State.mismatch, giveCause_of_working hworking, if_pos]
      simpa [Cause.guarded] using ⟨hphase, hguard⟩
    rw [hgive] at hheld ⊢
    refine ⟨by simp [PendingCauses.add], by simp, fun hnew => ?_, fun hold hdiverged => ?_⟩
    · refine lookAfter_noneWaits_claim _ _ hheld (addPending_noneWaits_of_new fun hadd => ?_)
      have := congrArg PendingCauses.mismatch hadd
      simp [PendingCauses.add, hnew] at this
    · have hadd : PendingCauses.add (s.noted f rest).setDiverged.countMismatch.recount.causes .mismatch =
          (s.noted f rest).setDiverged.countMismatch.recount.causes := by
        simp [PendingCauses.add, ← hold]
      rw [addPending_of_pending _ hadd] at hheld ⊢
      have happlied := notApplied_mismatch (noted_notApplied s f rest)
      rw [hgive, addPending_of_pending _ hadd] at happlied
      obtain ⟨hr, hd, hc⟩ := notApplied_items happlied (by simp [hstation]) (by simp)
      rw [hdiverged, if_pos rfl] at hqueue
      rw [lookAfter_of_claimHeld hr hd hc hheld hqueue, hqueue]
  · intro hcond
    have hgive : (s.noted f rest).mismatch = (s.noted f rest).setDiverged.countMismatch.requestRecount .mismatch := by
      rw [State.mismatch, giveCause_of_working hworking, if_neg]
      rintro ⟨hphase, -, hguard⟩
      rcases hcond with hcheck | hstopped
      · simp [hcheck] at hphase
      · simp [hstopped] at hguard
    rw [hgive]
    refine requestRecount_asksFor _ _ _ (by simp) fun hsound => ?_
    rw [leaveQueued_of_queue (v := if s.table.diverged = true then s else s.withdrawWaiting .claim)
      (hqueue.trans (apply_ite State.queue ..).symm), hqueue]
    split
    · exact ⟨hsound, Iff.rfl⟩
    · exact ⟨queueSound_withdrawWaiting _ hsound, leaveQueued_withdrawWaiting_claim hsound⟩

end

end Sys2Proof.Machine
end

section
/-! Frames that are not applied (R8, R13 to R17): how a frame is judged, and what each judgement comes to at the end
of the command. -/

namespace Sys2Proof.Machine

section
variable {s : State} {f : Frame} {rest : List RingEntry}

/-! ### How a frame is judged -/

/-- The kinds of the table frames (R14). -/
abbrev isTableKind (k : Kind) : Prop := k = .demand ∨ k = .claim ∨ k = .release ∨ k = .clear

theorem dispose_of_working (h : s.working) (own : Bool) (hkind : f.kind ≠ .recount) :
    s.dispose f own = s.judge f := by
  obtain ⟨hstate, hphase⟩ := h
  unfold State.dispose
  unfold Frame.kind at hkind
  cases hb : f.body <;> simp_all [Body.kind]

theorem judge_of_member (hm : s.table.isMember f.sender = true) (hkind : f.kind = .beacon ∨ isTableKind f.kind) :
    s.judge f = s.compare f := by
  unfold State.judge
  unfold isTableKind Frame.kind at hkind
  cases hb : f.body <;> simp_all [Body.kind]

theorem judge_of_stranger (hm : s.table.isMember f.sender = false) (hkind : isTableKind f.kind) :
    s.judge f = s.countStale := by
  unfold State.judge
  unfold isTableKind Frame.kind at hkind
  cases hb : f.body <;> simp_all [Body.kind]

theorem judge_of_strange_beacon (hm : s.table.isMember f.sender = false) (hkind : f.kind = .beacon) :
    s.judge f = s.strangeBeacon f.epoch := by
  unfold State.judge
  unfold Frame.kind at hkind
  cases hb : f.body <;> simp_all [Body.kind]

theorem ne_of_later {x y : Half} (h : 1 ≤ (x - y).toNat) : x ≠ y := by
  rintro rfl
  simp at h

/-- Of two epochs one is not both the earlier and the later (R3). -/
theorem not_later_of_earlier {x y : Half} (h : 1 ≤ (y - x).toNat) (h' : (y - x).toNat ≤ 32767) :
    ¬ laterEpoch x y := by
  rintro ⟨-, hle⟩
  bv_omega

/-! ### What a judgement comes to -/

/-- A stale frame is counted (R14, R16, R17). -/
theorem countStale_staleCounted : s.staleCounted ((s.noted f rest).countStale.lookAfter s false) :=
  ⟨by simp, by simp [State.countStale, State.withCounters, bump]⟩

/-- A cause that no running guard holds asks for a recount (R71). -/
theorem giveCause_asksFor (hw : s.working) (c : Cause)
    (hc : c.guarded = false ∨ s.recount.phase = .check ∨ s.recount.guardTimer = none) :
    s.asksFor (((s.noted f rest).giveCause c).lookAfter s false) c := by
  rw [giveCause_of_working (noted_working f rest hw), if_neg]
  · exact requestRecount_asksFor c s false (by simp) fun hsound =>
      ⟨by simpa using hsound, leaveQueued_of_queue (by simp)⟩
  · rintro ⟨hphase, hguarded, hguard⟩
    simp only [noted_recount_kept] at hphase hguard
    rcases hc with h | h | h
    · rw [h] at hguarded; cases hguarded
    · rw [h] at hphase; cases hphase
    · exact hguard h

/-- A MERGE that a running guard holds is pending, and a CLAIM is withdrawn on its entry alone (R74). -/
theorem giveCause_merge_held (hw : s.working) (hphase : s.recount.phase = .none)
    (hguard : s.recount.guardTimer ≠ none) :
    let t := ((s.noted f rest).giveCause .merge).lookAfter s false
    t.recount.causes.merge = true ∧ t.recount.requested = s.recount.requested ∧
    (s.recount.causes.merge = false → noneWaits t.queue .claim) ∧
    (s.recount.causes.merge = true → t.queue = s.queue) := by
  have hgive : (s.noted f rest).giveCause .merge = (s.noted f rest).addPending .merge := by
    rw [giveCause_of_working (noted_working f rest hw), if_pos]
    simpa [Cause.guarded] using ⟨hphase, hguard⟩
  have hheld : ((s.noted f rest).addPending .merge).claimHeld :=
    .inr (.inr (.inr (by simp [PendingCauses.add, PendingCauses.empty])))
  rw [hgive]
  refine ⟨by simp [PendingCauses.add], by simp, fun hnew => ?_, fun hold => ?_⟩
  · refine lookAfter_noneWaits_claim _ _ hheld (addPending_noneWaits_of_new fun hadd => ?_)
    have := congrArg PendingCauses.merge hadd
    simp [PendingCauses.add, hnew] at this
  · have hadd : PendingCauses.add (s.noted f rest).recount.causes .merge = (s.noted f rest).recount.causes := by
      simp [PendingCauses.add, ← hold]
    rw [addPending_of_pending _ hadd] at hheld ⊢
    obtain ⟨hr, hd, hc⟩ := notApplied_items (noted_notApplied s f rest)
      (by rw [noted_station_of_member f rest hw.1]) (by simp)
    rw [lookAfter_of_claimHeld hr hd hc hheld (by simp)]
    simp

end

/-- A frame that a working station judges is noted, judged, and the standing conditions looked at. -/
theorem exec_takeFrame_of_working {s : State} {f : Frame} {own : Bool} {rest : List RingEntry}
    (h : s.takes ⟨f, own⟩ rest) (hw : s.working) (ha : s.admits f own) (hkind : f.kind ≠ .recount) :
    exec .takeFrame s = .next (((s.noted f rest).judge f).lookAfter s false) := by
  rw [exec_takeFrame_of_admits h (.inr hw.1) ha, dispose_of_working (noted_working f rest hw) own hkind]

theorem noted_isMember {s : State} (f : Frame) (rest : List RingEntry) (n : StationNo) :
    (s.noted f rest).table.isMember n = s.table.isMember n := by
  unfold Table.isMember
  rw [onlyHeard_member? (noted_onlyHeard s f rest)]
  cases s.table.member? n <;> rfl

section
variable {s : State} {f : Frame} (rest : List RingEntry)

/-- What a cause leaves at the end of the command in which a frame was not applied. -/
theorem giveCause_leaves (hw : s.working) (c : Cause) :
    let t := ((s.noted f rest).giveCause c).lookAfter s false
    s.notApplied t f.sender rest ∧ t.station = s.station ∧ t.recount.phase = s.recount.phase ∧
    t.recount.count = s.recount.count ∧ t.table.diverged = s.table.diverged ∧ t.events = s.events :=
  ⟨notApplied_lookAfter (notApplied_giveCause (noted_notApplied s f rest) c) s false,
    by simp [noted_station_of_member f rest hw.1], by simp⟩

/-- What a stale frame leaves, beside its count. -/
theorem countStale_leaves (hw : s.working) :
    let t := (s.noted f rest).countStale.lookAfter s false
    s.notApplied t f.sender rest ∧ t.station = s.station ∧ t.recount.phase = s.recount.phase ∧
    t.recount.count = s.recount.count ∧ t.table.diverged = s.table.diverged :=
  ⟨notApplied_lookAfter (notApplied_countStale (noted_notApplied s f rest)) s false,
    by simp [noted_station_of_member f rest hw.1], by simp⟩

/-- A frame of a roster member out of step (R14). -/
theorem compare_outOfStep {m : Member} (hw : s.working) (hm : s.table.member? f.sender = some m)
    (hstep : ¬ (f.epoch = s.table.epoch ∧ f.tsn = s.table.tsn)) :
    let t := ((s.noted f rest).compare f).lookAfter s false
    s.notApplied t f.sender rest ∧ t.station = s.station ∧
    t.recount.phase = s.recount.phase ∧ t.recount.count = s.recount.count ∧
    t.table.member? f.sender = some (m.heardAt s.now) ∧
    (f.epoch = s.table.epoch → s.mismatchFound t) ∧
    (f.epoch ≠ s.table.epoch → t.table.diverged = s.table.diverged) ∧
    (1 ≤ (f.epoch - s.table.epoch).toNat → (f.epoch - s.table.epoch).toNat ≤ 32768 →
      s.asksFor t .behind ∧ t.events = s.events) ∧
    (1 ≤ (s.table.epoch - f.epoch).toNat → (s.table.epoch - f.epoch).toNat ≤ 32767 → s.staleCounted t) := by
  have hheard : ∀ t, s.notApplied t f.sender rest → t.table.member? f.sender = some (m.heardAt s.now) := by
    intro t ⟨_, honly, _⟩
    simp [onlyHeard_member? honly, hm]
  have hepoch : (s.noted f rest).table.epoch = s.table.epoch := by simp
  by_cases he : f.epoch = s.table.epoch
  · have hjudge : (s.noted f rest).compare f = (s.noted f rest).mismatch := by
      have htsn : f.tsn ≠ (s.noted f rest).table.tsn := fun h => hstep ⟨he, by simpa using h⟩
      rw [State.compare, if_pos (he.trans hepoch.symm), if_neg htsn]
    have happlied := notApplied_lookAfter (notApplied_mismatch (noted_notApplied s f rest)) s false
    rw [hjudge]
    exact ⟨happlied, by simp [noted_station_of_member f rest hw.1], by simp [State.mismatch],
      by simp [State.mismatch], hheard _ happlied, fun _ => mismatch_mismatchFound hw, fun h => absurd he h,
      fun h => absurd he (ne_of_later h), fun h => absurd he.symm (ne_of_later h)⟩
  · by_cases hlater : laterEpoch f.epoch s.table.epoch
    · have hjudge : (s.noted f rest).compare f = (s.noted f rest).giveCause .behind := by
        rw [State.compare, hepoch, if_neg he, if_pos hlater]
      obtain ⟨happlied, hstation, hphase, hcount, hdiverged, hevents⟩ := giveCause_leaves rest hw .behind
      rw [hjudge]
      exact ⟨happlied, hstation, hphase, hcount, hheard _ happlied, fun h => absurd h he, fun _ => hdiverged,
        fun _ _ => ⟨giveCause_asksFor hw _ (.inl rfl), hevents⟩,
        fun h h' => absurd hlater (not_later_of_earlier h h')⟩
    · have hjudge : (s.noted f rest).compare f = (s.noted f rest).countStale := by
        rw [State.compare, hepoch, if_neg he, if_neg hlater]
      obtain ⟨happlied, hstation, hphase, hcount, hdiverged⟩ := countStale_leaves (f := f) rest hw
      rw [hjudge]
      exact ⟨happlied, hstation, hphase, hcount, hheard _ happlied, fun h => absurd h he, fun _ => hdiverged,
        fun h h' => absurd ⟨h, h'⟩ hlater, fun _ _ => countStale_staleCounted⟩

/-- The cause that a REPORT gives in phase NONE or CHECK; none for a stale one (R16). -/
def State.reportCause (s : State) (n : StationNo) (target : Half) : Option Cause :=
  if target = s.table.epoch then if s.table.isMember n = true then none else some .roster
  else if laterEpoch target s.table.epoch then some .behind else none

theorem judgeReport_eq (s : State) (n : StationNo) (target : Half) :
    s.judgeReport n target = (s.reportCause n target).elim s.countStale s.giveCause := by
  unfold State.judgeReport State.reportCause
  (repeat' split) <;> rfl

/-- A REPORT in phase NONE or CHECK (R16). -/
theorem judgeReport_notApplied (hw : s.working) (target : Half) :
    let t := ((s.noted f rest).judgeReport f.sender target).lookAfter s false
    s.notApplied t f.sender rest ∧ t.station = s.station ∧
    t.recount.phase = s.recount.phase ∧ t.table.diverged = s.table.diverged ∧
    (1 ≤ (target - s.table.epoch).toNat → (target - s.table.epoch).toNat ≤ 32768 →
      s.asksFor t .behind ∧ t.events = s.events) ∧
    (target = s.table.epoch → s.table.member? f.sender = none → s.asksFor t .roster ∧ t.events = s.events) ∧
    (target = s.table.epoch → s.table.member? f.sender ≠ none → s.staleCounted t) ∧
    (1 ≤ (s.table.epoch - target).toNat → (s.table.epoch - target).toNat ≤ 32767 → s.staleCounted t) := by
  have hbehind : 1 ≤ (target - s.table.epoch).toNat → (target - s.table.epoch).toNat ≤ 32768 →
      s.reportCause f.sender target = some .behind := fun h h' => by
    rw [State.reportCause, if_neg (ne_of_later h), if_pos ⟨h, h'⟩]
  have hroster : target = s.table.epoch → s.table.member? f.sender = none →
      s.reportCause f.sender target = some .roster := fun he hm => by
    rw [State.reportCause, if_pos he, if_neg (by simp [Table.isMember, hm])]
  have hknown : target = s.table.epoch → s.table.member? f.sender ≠ none →
      s.reportCause f.sender target = none := fun he hm => by
    rw [State.reportCause, if_pos he, if_pos (isMember_eq_true.2 (Option.ne_none_iff_exists'.1 hm))]
  have hstale : 1 ≤ (s.table.epoch - target).toNat → (s.table.epoch - target).toNat ≤ 32767 →
      s.reportCause f.sender target = none := fun h h' => by
    rw [State.reportCause, if_neg (ne_of_later h).symm, if_neg (not_later_of_earlier h h')]
  have hnoted : (s.noted f rest).reportCause f.sender target = s.reportCause f.sender target := by
    simp only [State.reportCause, noted_isMember]
    simp
  cases hcause : s.reportCause f.sender target with
  | none =>
    obtain ⟨happlied, hstation, hphase, -, hdiverged⟩ := countStale_leaves (f := f) rest hw
    rw [judgeReport_eq, hnoted, hcause, Option.elim_none]
    exact ⟨happlied, hstation, hphase, hdiverged, fun h h' => absurd (hcause.symm.trans (hbehind h h')) (by simp),
      fun h h' => absurd (hcause.symm.trans (hroster h h')) (by simp), fun _ _ => countStale_staleCounted,
      fun _ _ => countStale_staleCounted⟩
  | some c =>
    obtain ⟨happlied, hstation, hphase, -, hdiverged, hevents⟩ := giveCause_leaves (f := f) rest hw c
    have hasks : ∀ c', s.reportCause f.sender target = some c' → c'.guarded = false →
        s.asksFor (((s.noted f rest).giveCause c).lookAfter s false) c' := by
      intro c' hc' hguard
      obtain rfl := Option.some.inj (hcause.symm.trans hc')
      exact giveCause_asksFor hw _ (.inl hguard)
    rw [judgeReport_eq, hnoted, hcause, Option.elim_some]
    exact ⟨happlied, hstation, hphase, hdiverged, fun h h' => ⟨hasks _ (hbehind h h') rfl, hevents⟩,
      fun h h' => ⟨hasks _ (hroster h h') rfl, hevents⟩,
      fun h h' => absurd (hcause.symm.trans (hknown h h')) (by simp),
      fun h h' => absurd (hcause.symm.trans (hstale h h')) (by simp)⟩

/-- The cause that a BEACON from outside the roster gives (R17). -/
def State.strangeCause (s : State) (epoch : Half) : Cause :=
  if epoch = s.table.epoch then if s.recount.phase = .check then .roster else .merge
  else if laterEpoch epoch s.table.epoch then .behind else .merge

theorem strangeBeacon_eq (s : State) (epoch : Half) : s.strangeBeacon epoch = s.giveCause (s.strangeCause epoch) := by
  unfold State.strangeBeacon State.strangeCause
  (repeat' split) <;> rfl

/-- A BEACON from outside the roster (R17). -/
theorem strangeBeacon_notApplied (hw : s.working) (hm : s.table.member? f.sender = none) :
    let t := ((s.noted f rest).strangeBeacon f.epoch).lookAfter s false
    s.notApplied t f.sender rest ∧ t.station = s.station ∧
    t.recount.phase = s.recount.phase ∧ t.table.diverged = s.table.diverged ∧
    t.events = s.events ∧ (f.sender ≠ s.own → t.recount.lastNonMember = some s.now) ∧
    (1 ≤ (f.epoch - s.table.epoch).toNat → (f.epoch - s.table.epoch).toNat ≤ 32768 → s.asksFor t .behind) ∧
    (f.epoch = s.table.epoch → s.recount.phase = .check → s.asksFor t .roster) ∧
    (f.epoch = s.table.epoch ∧ s.recount.phase = .none ∨
        1 ≤ (s.table.epoch - f.epoch).toNat ∧ (s.table.epoch - f.epoch).toNat ≤ 32767 →
      (s.recount.phase = .none → s.recount.guardTimer ≠ none →
        t.recount.causes.merge = true ∧ t.recount.requested = s.recount.requested ∧
        (s.recount.causes.merge = false → noneWaits t.queue .claim) ∧
        (s.recount.causes.merge = true → t.queue = s.queue)) ∧
      (s.recount.phase = .check ∨ s.recount.guardTimer = none → s.asksFor t .merge)) := by
  have hcause : (s.noted f rest).strangeCause f.epoch = s.strangeCause f.epoch := by
    simp [State.strangeCause]
  obtain ⟨happlied, hstation, hkept, -, hdiverged, hevents⟩ := giveCause_leaves rest hw (s.strangeCause f.epoch)
  rw [strangeBeacon_eq, hcause]
  refine ⟨happlied, hstation, hkept, hdiverged, hevents, fun hown => by simpa using noted_lastNonMember hm hown,
    fun h h' => ?_, fun he hphase => ?_, fun hcond => ?_⟩
  · have hbehind : s.strangeCause f.epoch = .behind := by
      rw [State.strangeCause, if_neg (ne_of_later h), if_pos ⟨h, h'⟩]
    rw [hbehind]
    exact giveCause_asksFor hw _ (.inl rfl)
  · have hroster : s.strangeCause f.epoch = .roster := by
      rw [State.strangeCause, if_pos he, if_pos hphase]
    rw [hroster]
    exact giveCause_asksFor hw _ (.inl rfl)
  · have hmerge : s.strangeCause f.epoch = .merge := by
      rw [State.strangeCause]
      rcases hcond with ⟨he, hphase⟩ | ⟨h, h'⟩
      · rw [if_pos he, if_neg (by simp [hphase])]
      · rw [if_neg (ne_of_later h).symm, if_neg (not_later_of_earlier h h')]
    rw [hmerge]
    exact ⟨giveCause_merge_held hw, fun h => giveCause_asksFor hw _ (.inr h)⟩

end

/-- Settles O45: each frame's judgement is one of a MISMATCH, a cause, a stale frame or none, and none of them
touches the entries. -/
theorem outOfStepFramesAreNotApplied : Obligations.OutOfStepFramesAreNotApplied := by
  intro s f own rest ht ha
  have hnoted := noted_notApplied s f rest
  have hmember := noted_isMember (s := s) f rest f.sender
  refine ⟨fun m hw hm hkind hstep => ?_, fun target w d g x hw hbody => ?_, fun hw hm hkind => ?_,
    fun hw hm hkind => ?_, fun hlisten hphase hkind => ?_⟩
  · refine ⟨_, ?_, compare_outOfStep rest hw hm hstep⟩
    rw [exec_takeFrame_of_working ht hw ha (by rcases hkind with h | h | h | h | h <;> simp [h]),
      judge_of_member (hmember.trans (isMember_eq_true.2 ⟨m, hm⟩)) hkind]
  · refine ⟨_, ?_, judgeReport_notApplied rest hw target⟩
    rw [exec_takeFrame_of_working ht hw ha (by simp [Frame.kind, hbody, Body.kind])]
    simp only [State.judge, hbody]
  · refine ⟨_, ?_, strangeBeacon_notApplied rest hw hm⟩
    rw [exec_takeFrame_of_working ht hw ha (by simp [hkind]),
      judge_of_strange_beacon (hmember.trans (by simp [Table.isMember, hm])) hkind]
  · obtain ⟨happlied, hstation, hphase, -, hdiverged⟩ := countStale_leaves (f := f) rest hw
    refine ⟨_, ?_, happlied, hstation, hphase, hdiverged, countStale_staleCounted⟩
    rw [exec_takeFrame_of_working ht hw ha (by rcases hkind with h | h | h | h <;> simp [h]),
      judge_of_stranger (hmember.trans (by simp [Table.isMember, hm])) hkind]
  · have hstation := noted_station s f rest
    have hdispose : (s.noted f rest).dispose f own = s.noted f rest := by
      have hstate : (s.noted f rest).station.state = .listen := by
        rw [hstation]; split <;> exact hlisten
      unfold State.dispose
      unfold Frame.kind at hkind
      cases hb : f.body <;> simp_all [Body.kind]
    have hlook : (s.noted f rest).lookAfter s false = s.noted f rest := by
      refine lookAfter_of_not_member _ _ _ ?_
      rw [hstation]; split <;> simp [hlisten]
    refine ⟨_, exec_takeFrame_of_admits ht (.inl hlisten) ha, ?_⟩
    rw [hdispose, hlook]
    refine ⟨hnoted, by simp, by simp, by simp, noted_recount s f rest, fun hown => ?_, fun hown => ?_⟩
    · rw [hstation, if_pos ⟨hlisten, hphase, hown⟩]
    · rw [hstation, if_neg fun h => h.2.2 hown]

end Sys2Proof.Machine
end

section
/-! The look at the YIELD need (R59 to R62), case by case, and what it makes of the lower request by the end of the
command. -/

namespace Sys2Proof.Machine

section
variable {s t u : State} {r : LowerRequest}

/-! ### The cases of the look (R60, R61) -/

theorem lookYield_of_no_request (hw : u.working) (hl : u.grant.lower = none) (hn : ¬ u.yieldNeed) :
    u.lookYield = u := by
  unfold State.lookYield
  rw [if_pos hw, hl]
  exact if_neg hn

theorem lookYield_of_need (hw : u.working) (hl : u.grant.lower = none) (hn : u.yieldNeed) :
    u.lookYield = u.createLower .yield u.grant.seen.entitlement := by
  unfold State.lookYield
  rw [if_pos hw, hl]
  exact if_pos hn

theorem lookYield_of_isolate (hw : u.working) (hl : u.grant.lower = some r) (hc : r.cause = .isolate) :
    u.lookYield = u := by
  unfold State.lookYield
  rw [if_pos hw, hl]
  simp only [hc]

theorem lookYield_of_yield (hw : u.working) (hl : u.grant.lower = some r) (hc : r.cause = .yield) :
    u.lookYield = u.recheckYield r := by
  unfold State.lookYield
  rw [if_pos hw, hl]
  simp only [hc]

theorem recheckYield_of_met (h : u.grant.applied ≤ r.target) : u.recheckYield r = u.clearLower := if_pos h

/-- A need that has gone withdraws the request, A being at or below E_own or not (R61). -/
theorem recheckYield_of_need_gone (h : r.target < u.grant.applied) (hn : ¬ u.yieldNeed) :
    u.recheckYield r = u.clearLower.raise .lowerWithdrawn := by
  unfold State.recheckYield
  rw [if_neg (Nat.not_le_of_lt h), if_pos hn, ite_self]

/-- A need that stays moves the target to E_own, and is announced where that falls (R61). -/
theorem recheckYield_of_need (h : r.target < u.grant.applied) (hn : u.yieldNeed) :
    u.recheckYield r =
      let moved := u.withGrant { u.grant with lower := some { r with target := u.grant.seen.entitlement } }
      if u.grant.seen.entitlement < r.target then moved.raise .lowerRequest else moved := by
  unfold State.recheckYield
  rw [if_neg (Nat.not_le_of_lt h), if_neg (Nat.not_le_of_lt hn.2.1), if_neg (not_not_intro hn)]

/-! ### Flags and counters -/

@[simp] theorem lookYield_counters_mask (u : State) :
    u.lookYield.events.counters = u.events.counters ∧ u.lookYield.events.mask = u.events.mask := by
  unfold State.lookYield State.recheckYield
  (repeat' split) <;> simp [State.createLower]

theorem lookYield_keeps_flag {e : Event} (h : u.events.flagSet e) : u.lookYield.events.flagSet e := by
  unfold State.lookYield State.recheckYield
  (repeat' split) <;> simp [State.createLower, raise_flagSet, h]

/-! ### What the look makes of the lower request (R59 to R62) -/

theorem othersStarved_iff (u : State) : u.othersStarved ↔ ∃ n ∈ u.grant.seen.starved, n ≠ u.own := by
  simp [State.othersStarved, List.filter_eq_nil_iff]

/-- The look at the YIELD need, taken where the lower request of `s` still stands or A has just met it. -/
theorem lookYield_yieldJudged (hw : u.working)
    (hlower : u.grant.lower = s.grant.lower ∨
      ∃ r, s.grant.lower = some r ∧ u.grant.applied ≤ r.target ∧ u.grant.lower = none)
    (hrequest : u.events.flagSet .lowerRequest ↔ s.events.flagSet .lowerRequest)
    (hwithdrawn : u.events.flagSet .lowerWithdrawn ↔ s.events.flagSet .lowerWithdrawn)
    (hconfig : u.loader = s.loader) (b : State) (freed : Bool) :
    s.yieldJudged (u.lookYield.lookAfter b freed) := by
  have hneed : (u.grant.seen.entitlement < u.grant.applied ∧
      ((∃ n ∈ u.grant.seen.starved, n ≠ u.own) ∨ u.grant.seen.isOver = true)) ↔ u.yieldNeed := by
    rw [← othersStarved_iff]
    exact ⟨fun h => ⟨hw, h⟩, fun h => h.2⟩
  have hown : (u.lookYield.lookAfter b freed).own = u.own := by simp [State.own]
  have hyield : u.tYield = 2 ^ s.config.yieldExp.toNat := by simp [State.tYield, State.config, hconfig]
  unfold State.yieldJudged
  simp only [hown, lookAfter_frame, lookYield_values, lookYield_frame]
  by_cases hn : u.yieldNeed
  · simp only [eq_true (hneed.2 hn)]
    have hnew : u.grant.lower = none → (u.lookYield.grant.lower =
        some ⟨.yield, u.grant.seen.entitlement, u.now + ms (2 ^ s.config.yieldExp.toNat)⟩ ∧
        noneWaits (u.lookYield.lookAfter b freed).queue .claim) ∧
        (u.lookYield.events.flagSet .lowerRequest) ∧
        (u.lookYield.events.flagSet .lowerWithdrawn ↔ u.events.flagSet .lowerWithdrawn) := by
      intro hl
      rw [lookYield_of_need hw hl hn]
      refine ⟨⟨by simp [hyield],
        lookAfter_noneWaits_claim _ _ (.inl (by simp)) (noneWaits_withdrawWaiting _ _)⟩, ?_⟩
      simp [State.createLower, raise_flagSet]
    cases hl : s.grant.lower with
    | none =>
      obtain ⟨⟨hcreated, hclaims⟩, hflag, hother⟩ := hnew (by simpa [hl] using hlower)
      simp only [hcreated, hflag, hother, hwithdrawn]
      simpa using hclaims
    | some r =>
      rcases hlower with hlu | ⟨r', hr', hmet, hlu⟩
      · rw [hl] at hlu
        cases hc : r.cause with
        | isolate =>
          rw [lookYield_of_isolate hw hlu hc]
          simp [hlu, hc, hrequest, hwithdrawn]
        | yield =>
          rw [lookYield_of_yield hw hlu hc]
          rcases Nat.lt_or_ge r.target u.grant.applied with hlt | hle
          · rw [recheckYield_of_need hlt hn]
            by_cases hfall : u.grant.seen.entitlement < r.target
            · simp [hc, hfall, raise_flagSet, hwithdrawn]
            · simp [hc, hfall, hrequest, hwithdrawn]
          · simp [hc, Nat.not_lt_of_ge hle]
      · obtain rfl : r = r' := Option.some.inj (hl.symm.trans hr')
        simp [hmet]
  · simp only [eq_false (mt hneed.1 hn)]
    cases hl : s.grant.lower with
    | none =>
      have hlu : u.grant.lower = none := by simpa [hl] using hlower
      rw [lookYield_of_no_request hw hlu hn]
      simp [hlu, hrequest, hwithdrawn]
    | some r =>
      rcases hlower with hlu | ⟨r', hr', hmet, hlu⟩
      · rw [hl] at hlu
        cases hc : r.cause with
        | isolate =>
          rw [lookYield_of_isolate hw hlu hc]
          simp [hlu, hc, hrequest, hwithdrawn]
        | yield =>
          rw [lookYield_of_yield hw hlu hc]
          rcases Nat.lt_or_ge r.target u.grant.applied with hlt | hle
          · rw [recheckYield_of_need_gone hlt hn]
            simp [hc, raise_flagSet, hrequest]
          · rw [recheckYield_of_met hle]
            simp [hc, Nat.not_lt_of_ge hle]
      · obtain rfl : r = r' := Option.some.inj (hl.symm.trans hr')
        rw [lookYield_of_no_request hw hlu hn]
        simp [hlu, hmet]

end

end Sys2Proof.Machine
end

section
/-! An applied CLAIM (R19, R21, R24, R53): the committed increment, the table it leaves, and what Grant Control makes
of it. -/

namespace Sys2Proof.Machine

section
variable {s u : State} {n : StationNo} {m : Member} {a inc : Nat}

/-! ### The increment and the table (R19, R21) -/

/-- The increment is committed: the sender's grant, TSN and the starved set. -/
def State.claimCommitted (u : State) (n : StationNo) (inc : Nat) : State :=
  (u.withTable (u.table.updateMember n fun m => { m with grant := m.grant + inc })).nextTsn.recomputeStarved

/-- Grant Control then takes an own increment, or the notices of another station's (R24, R53). -/
theorem applyClaim_eq (u : State) (n : StationNo) (a : Nat) : u.applyClaim n a =
    if n = u.own then (u.claimCommitted n (u.increment n a)).ownClaimNotices (u.increment n a) a
    else (u.claimCommitted n (u.increment n a)).giveNotices false := rfl

@[simp] theorem claimCommitted_frame (u : State) (n : StationNo) (inc : Nat) :
    (u.claimCommitted n inc).loader = u.loader ∧ (u.claimCommitted n inc).grant = u.grant ∧
    (u.claimCommitted n inc).recount = u.recount ∧ (u.claimCommitted n inc).station = u.station ∧
    (u.claimCommitted n inc).events = u.events := by
  simp [State.claimCommitted]

@[simp] theorem claimCommitted_table_values (u : State) (n : StationNo) (inc : Nat) :
    (u.claimCommitted n inc).table.tsn = u.table.tsn + 1 ∧
    (u.claimCommitted n inc).table.epoch = u.table.epoch ∧
    (u.claimCommitted n inc).table.starved = (u.claimCommitted n inc).table.starvedNow := by
  refine ⟨?_, ?_, rfl⟩ <;> simp [State.claimCommitted, State.nextTsn, State.recomputeStarved]

/-- The entries and the sum after the increment (R5, R21). -/
theorem claimCommitted_entries (hm : u.table.member? n = some m) (inc : Nat) :
    (u.claimCommitted n inc).table.member? n = some { m with grant := m.grant + inc } ∧
    (∀ k, k ≠ n → (u.claimCommitted n inc).table.entryAt k = u.table.entryAt k) ∧
    (u.claimCommitted n inc).table.sum = u.table.sum + inc := by
  refine ⟨updateMember_member? hm _, fun k hk => updateMember_entryAt_of_ne u.table hk _, ?_⟩
  have hsum := updateMember_sum hm fun m => { m with grant := m.grant + inc }
  have htable : (u.claimCommitted n inc).table.sum =
      (u.table.updateMember n fun m => { m with grant := m.grant + inc }).sum := rfl
  dsimp only at hsum
  omega

/-- The cap on an increment: E - g while another member is starved (R21). -/
def claimCap (starved : List StationNo) (n : StationNo) (m : Member) (a : Nat) : Nat :=
  if starved.filter (fun k => k != n) = [] then a else m.entitlement - m.grant

theorem increment_of_member (hm : u.table.member? n = some m) (a : Nat) :
    u.increment n a = min a (min u.free (claimCap u.table.starved n m a)) := by
  unfold State.increment
  rw [hm]
  exact min_assoc ..

theorem claimCap_of_starved {starved : List StationNo} (h : ∃ k ∈ starved, k ≠ n) :
    claimCap starved n m a = m.entitlement - m.grant := by
  refine if_neg fun hnil => ?_
  obtain ⟨k, hk, hne⟩ := h
  exact absurd (List.filter_eq_nil_iff.1 hnil k hk) (by simpa using hne)

theorem claimCap_of_none_starved {starved : List StationNo} (h : ∀ k ∈ starved, k = n) :
    claimCap starved n m a = a :=
  if_pos (List.filter_eq_nil_iff.2 fun k hk => by simp [h k hk])

/-! ### Grant Control (R24, R53, R59 to R62) -/

/-- A lower request that A has met is cleared, and another one stays (R62). -/
theorem satisfyLower_lower (u : State) : u.satisfyLower.grant.lower = u.grant.lower ∨
    ∃ r, u.grant.lower = some r ∧ u.grant.applied ≤ r.target ∧ u.satisfyLower.grant.lower = none := by
  unfold State.satisfyLower
  split
  · split
    · exact .inr ⟨_, ‹_›, ‹_›, by simp⟩
    · exact .inl rfl
  · exact .inl rfl

/-- A after an own increment (R53). -/
def Grant.appliedAfter (g : Grant) (inc : Nat) : Nat :=
  min (if g.cutoff then g.applied else g.applied + inc) g.demand

/-- Grant Control has taken the own increment; the lower request is still to be looked at (R53). -/
def State.incrementTaken (u : State) (inc a : Nat) : State :=
  let s1 := u.withGrant { u.grant with applied := u.grant.appliedAfter inc }
  let s2 := if u.grant.applied < u.grant.appliedAfter inc then s1.raise .grantRaised else s1
  if inc < a then (s2.withGrant { s2.grant with backoff := true }).raise .claimShort else s2

theorem ownClaimApplied_eq (u : State) (inc a : Nat) :
    u.ownClaimApplied inc a = (u.incrementTaken inc a).satisfyLower := rfl

theorem incrementTaken_values (u : State) (inc a : Nat) :
    (u.incrementTaken inc a).grant.applied = u.grant.appliedAfter inc ∧
    (u.incrementTaken inc a).grant.lower = u.grant.lower := by
  unfold State.incrementTaken
  dsimp only
  (repeat' split) <;> simp

/-- GRANT_RAISED is raised when A rises and CLAIM_SHORT when the increment is below the amount (R53). -/
theorem ownClaimApplied_flagSet (u : State) (inc a : Nat) (e : Event) :
    (u.ownClaimApplied inc a).events.flagSet e ↔ u.events.flagSet e ∨
      (e = .grantRaised ∧ u.grant.applied < u.grant.appliedAfter inc) ∨ (e = .claimShort ∧ inc < a) := by
  have hevents : (u.ownClaimApplied inc a).events = (u.incrementTaken inc a).events := by
    simp [ownClaimApplied_eq]
  rw [hevents]
  unfold State.incrementTaken
  by_cases hrise : u.grant.applied < u.grant.appliedAfter inc <;> by_cases hshort : inc < a <;>
    simp [hrise, hshort, raise_flagSet] <;> tauto

@[simp] theorem ownClaimApplied_counters_mask (u : State) (inc a : Nat) :
    (u.ownClaimApplied inc a).events.counters = u.events.counters ∧
    (u.ownClaimApplied inc a).events.mask = u.events.mask := by
  have hevents : (u.ownClaimApplied inc a).events = (u.incrementTaken inc a).events := by
    simp [ownClaimApplied_eq]
  rw [hevents]
  unfold State.incrementTaken
  dsimp only
  (repeat' split) <;> simp

/-- An own increment meets the lower request or leaves it (R62). -/
theorem ownClaimApplied_lower (u : State) (inc a : Nat) :
    (u.ownClaimApplied inc a).grant.lower = u.grant.lower ∨ ∃ r, u.grant.lower = some r ∧
      u.grant.appliedAfter inc ≤ r.target ∧ (u.ownClaimApplied inc a).grant.lower = none := by
  obtain ⟨happlied, hlower⟩ := incrementTaken_values u inc a
  rw [ownClaimApplied_eq, ← hlower, ← happlied]
  exact satisfyLower_lower _

theorem noticeNow_of_table {t : State} (ht : t.table = u.table) (hl : t.loader = u.loader) :
    t.noticeNow = u.noticeNow := by
  have hover : t.isOver = u.isOver := by
    unfold State.isOver State.budget State.config
    rw [ht, hl]
  simp [State.noticeNow, State.eOwn, State.ownMember?, State.own, hover, ht, hl]

/-- What another station's CLAIM leads to in Grant Control (R24, R59). -/
theorem giveNotices_yieldJudged (hw : u.working) (hgrant : u.grant.lower = s.grant.lower)
    (hevents : u.events = s.events) (hloader : u.loader = s.loader) (b : State) (freed : Bool) :
    let t := (u.giveNotices false).lookAfter b freed
    (t.grant.seen ≠ u.grant.seen → s.yieldJudged t) ∧
    (t.grant.seen = u.grant.seen → t.grant.lower = s.grant.lower ∧ t.events = s.events) ∧
    t.grant.seen = u.noticeNow := by
  unfold State.giveNotices
  simp only [Bool.false_eq_true, if_false]
  by_cases hsame : u.noticeNow = u.grant.seen
  · rw [if_pos hsame]
    simp [hsame, hgrant, hevents]
  · rw [if_neg hsame]
    have hwork : u.noticeChanged.working := by simpa [State.working] using hw
    have hjudged := lookYield_yieldJudged hwork (s := s) (.inl (by simpa using hgrant)) (by simp [hevents])
      (by simp [hevents]) (by simpa using hloader) b freed
    simp [hjudged, hsame]

/-- What an own CLAIM leads to in Grant Control (R53, R59). -/
theorem ownClaimNotices_yieldJudged (hw : u.working) (hgrant : u.grant.lower = s.grant.lower)
    (hevents : u.events = s.events) (hloader : u.loader = s.loader) (inc a : Nat) (b : State) (freed : Bool) :
    s.yieldJudged ((u.ownClaimNotices inc a).lookAfter b freed) := by
  have hwork : (u.ownClaimApplied inc a).noticeChanged.working := by simpa [State.working] using hw
  refine lookYield_yieldJudged hwork ?_ ?_ ?_ (by simpa using hloader) b freed
  · have h := ownClaimApplied_lower u inc a
    rw [hgrant] at h
    simpa [ownClaimApplied_applied, Grant.appliedAfter] using h
  · simp [ownClaimApplied_flagSet, hevents]
  · simp [ownClaimApplied_flagSet, hevents]

end

end Sys2Proof.Machine
end

section
/-! A frame in step with the own table, and the CLAIM among them (R14, R19, R21, R24, R53). -/

namespace Sys2Proof.Machine

section
variable {s : State} {f : Frame} {own : Bool} {rest : List RingEntry} {m : Member}

/-! ### A frame that passes the comparison (R14) -/

/-- The state in which a frame in step is applied: noted, and SUSPECT clear but for an own frame (R7, R14). -/
def State.compared (s : State) (f : Frame) (rest : List RingEntry) : State :=
  (s.noted f rest).clearSuspect f.sender

theorem exec_takeFrame_of_inStep (ht : s.takes ⟨f, own⟩ rest) (h : s.inStep f own m)
    (hkind : f.kind = .beacon ∨ isTableKind f.kind) :
    exec .takeFrame s = .next (((s.compared f rest).passed f.sender f.body).lookAfter s false) := by
  obtain ⟨hw, -, ha, hm, hepoch, htsn⟩ := h
  have hmember : (s.noted f rest).table.isMember f.sender = true := by
    rw [noted_isMember]; exact isMember_eq_true.2 ⟨m, hm⟩
  have hrecount : f.kind ≠ .recount := by
    rcases hkind with h | h | h | h | h <;> simp [h]
  rw [exec_takeFrame_of_working ht hw ha hrecount, judge_of_member hmember hkind, State.compare,
    if_pos (by simpa using hepoch), if_pos (by simpa using htsn)]
  rfl

@[simp] theorem clearSuspect_table (u : State) (n : StationNo) :
    (u.clearSuspect n).table = { u.table with suspect := if n = u.own then u.table.suspect else false } := by
  unfold State.clearSuspect; split <;> rfl

@[simp] theorem compared_frame (s : State) (f : Frame) (rest : List RingEntry) :
    (s.compared f rest).now = s.now ∧ (s.compared f rest).loader = s.loader ∧
    (s.compared f rest).ring.entries = rest ∧ (s.compared f rest).engine = s.engine ∧
    (s.compared f rest).grant = s.grant ∧ (s.compared f rest).events = s.events := by
  simp [State.compared]

theorem compared_sameOutside (s : State) (f : Frame) (rest : List RingEntry) :
    s.sameOutside (s.compared f rest) := by
  simp [State.compared, State.sameOutside, State.sameBeside]

@[simp] theorem compared_table_values (s : State) (f : Frame) (rest : List RingEntry) :
    (s.compared f rest).table.epoch = s.table.epoch ∧ (s.compared f rest).table.tsn = s.table.tsn ∧
    (s.compared f rest).table.starved = s.table.starved := by
  simp [State.compared]

theorem compared_sum (s : State) (f : Frame) (rest : List RingEntry) :
    (s.compared f rest).table.sum = s.table.sum := by
  have h : (s.compared f rest).table.sum = (s.noted f rest).table.sum := by
    simp only [State.compared, clearSuspect_table]; rfl
  rw [h, noted_table, updateMember_sum_of_grant (f := fun m => m.heardAt s.now) _ _ fun _ => rfl]

theorem compared_free (s : State) (f : Frame) (rest : List RingEntry) :
    (s.compared f rest).free = s.budget - s.table.sum := by
  simp [State.free, State.budget, State.config, compared_sum]

/-- The sender's entry is as heard, and every other as it was (R2). -/
theorem compared_entries (rest : List RingEntry) (hm : s.table.member? f.sender = some m) :
    (s.compared f rest).table.member? f.sender = some (m.heardAt s.now) ∧
    ∀ k, k ≠ f.sender → (s.compared f rest).table.entryAt k = s.table.entryAt k := by
  have hentryAt : ∀ k, (s.compared f rest).table.entryAt k = (s.noted f rest).table.entryAt k := by
    intro k
    simp only [State.compared, clearSuspect_table]; rfl
  refine ⟨?_, fun k hk => ?_⟩
  · rw [member?_eq_some, hentryAt, ← member?_eq_some, noted_table]
    exact updateMember_member? hm _
  · rw [hentryAt, noted_table]
    exact updateMember_entryAt_of_ne _ hk _

theorem compared_of_working (h : s.working) (hm : s.table.member? f.sender = some m) :
    (s.compared f rest).working ∧ (s.compared f rest).station = s.station ∧
    (s.compared f rest).recount = { s.recount with highest := (s.compared f rest).recount.highest } := by
  obtain ⟨hstate, hphase⟩ := noted_working f rest h
  have hrecount := noted_recount_of_member (rest := rest) hm
  refine ⟨⟨by simpa [State.compared] using hstate, by simpa [State.compared] using hphase⟩, ?_, ?_⟩
  · simp [State.compared, noted_station_of_member f rest h.1]
  · simpa [State.compared] using hrecount

/-! ### The CLAIM in step (R21, R24, R53) -/

theorem applyClaim_table (u : State) (n : StationNo) (a : Nat) :
    (u.applyClaim n a).table = (u.claimCommitted n (u.increment n a)).table := by
  rw [applyClaim_eq]; split <;> simp

@[simp] theorem giveNotices_counters_mask (u : State) (clear : Bool) :
    (u.giveNotices clear).events.counters = u.events.counters ∧
    (u.giveNotices clear).events.mask = u.events.mask := by
  unfold State.giveNotices
  (repeat' split) <;> simp

theorem applyClaim_counters_mask (u : State) (n : StationNo) (a : Nat) :
    (u.applyClaim n a).events.counters = u.events.counters ∧
    (u.applyClaim n a).events.mask = u.events.mask := by
  rw [applyClaim_eq]; split <;> simp [State.ownClaimNotices]

/-- Grant Control after the own CLAIM (R53, R54, R59). -/
theorem applyClaim_own {u : State} (hw : u.working) (hgrant : u.grant = s.grant) (hevents : u.events = s.events)
    (hloader : u.loader = s.loader) {n : StationNo} (hn : n = u.own) (a : Nat) :
    let t := (u.applyClaim n a).lookAfter s false
    t.grant.demand = s.grant.demand ∧ t.grant.cutoff = s.grant.cutoff ∧
    (s.grant.cutoff = false → t.grant.applied = min (s.grant.applied + u.increment n a) s.grant.demand) ∧
    (s.grant.cutoff = true → t.grant.applied = min s.grant.applied s.grant.demand) ∧
    (s.grant.applied < t.grant.applied → t.events.flagSet .grantRaised) ∧
    (u.increment n a < a → t.events.flagSet .claimShort ∧ t.grant.backoff = true) ∧
    (u.increment n a = a → t.grant.backoff = s.grant.backoff) ∧
    s.yieldJudged t ∧ t.grant.seen = t.noticeNow := by
  have hclaim : u.applyClaim n a =
      (u.claimCommitted n (u.increment n a)).ownClaimNotices (u.increment n a) a := by
    rw [applyClaim_eq, if_pos hn]
  generalize u.increment n a = inc at hclaim ⊢
  rw [hclaim]
  have hcw : (u.claimCommitted n inc).working := by simpa [State.working] using hw
  have hjudged := ownClaimNotices_yieldJudged (s := s) hcw (by simp [hgrant]) (by simp [hevents])
    (by simp [hloader]) inc a s false
  have happlied : ((u.claimCommitted n inc).ownClaimNotices inc a).grant.applied = s.grant.appliedAfter inc := by
    simp [State.ownClaimNotices, ownClaimApplied_applied, Grant.appliedAfter, hgrant]
  have hbackoff : ((u.claimCommitted n inc).ownClaimNotices inc a).grant.backoff =
      if inc < a then true else s.grant.backoff := by
    simp [State.ownClaimNotices, hgrant]
  have hflag : ∀ e, ((u.claimCommitted n inc).ownClaimApplied inc a).events.flagSet e →
      ((u.claimCommitted n inc).ownClaimNotices inc a).events.flagSet e := fun e he =>
    lookYield_keeps_flag (u := ((u.claimCommitted n inc).ownClaimApplied inc a).noticeChanged) (by simpa using he)
  simp only [lookAfter_frame]
  refine ⟨by simp [State.ownClaimNotices, hgrant], by simp [State.ownClaimNotices, hgrant], fun h => ?_, fun h => ?_,
    fun h => hflag _ ?_, fun h => ⟨hflag _ ?_, ?_⟩, fun h => ?_, hjudged, ?_⟩
  · simp [happlied, Grant.appliedAfter, h]
  · simp [happlied, Grant.appliedAfter, h]
  · rw [happlied] at h
    exact (ownClaimApplied_flagSet ..).2 (.inr (.inl ⟨rfl, by simpa [hgrant] using h⟩))
  · exact (ownClaimApplied_flagSet ..).2 (.inr (.inr ⟨rfl, h⟩))
  · rw [hbackoff, if_pos h]
  · rw [hbackoff, if_neg (by omega)]
  · rw [noticeNow_of_table (u := (u.claimCommitted n inc).ownClaimApplied inc a) (by simp) (by simp)]
    simp [State.ownClaimNotices]

/-- Grant Control after the CLAIM of another station (R24, R59). -/
theorem applyClaim_other {u : State} (hw : u.working) (hgrant : u.grant = s.grant) (hevents : u.events = s.events)
    (hloader : u.loader = s.loader) {n : StationNo} (hn : n ≠ u.own) (a : Nat) :
    let t := (u.applyClaim n a).lookAfter s false
    t.grant.demand = s.grant.demand ∧ t.grant.cutoff = s.grant.cutoff ∧
    t.grant.applied = s.grant.applied ∧ t.grant.backoff = s.grant.backoff ∧
    (t.grant.seen ≠ s.grant.seen → s.yieldJudged t) ∧
    (t.grant.seen = s.grant.seen → t.grant.lower = s.grant.lower ∧ t.events = s.events) ∧
    t.grant.seen = t.noticeNow := by
  have hclaim : u.applyClaim n a = (u.claimCommitted n (u.increment n a)).giveNotices false := by
    rw [applyClaim_eq, if_neg hn]
  generalize u.increment n a = inc at hclaim
  rw [hclaim]
  have hcw : (u.claimCommitted n inc).working := by simpa [State.working] using hw
  obtain ⟨hjudged, hsame, hseen⟩ := giveNotices_yieldJudged (s := s) hcw (by simp [hgrant]) (by simp [hevents])
    (by simp [hloader]) s false
  simp only [claimCommitted_frame, hgrant] at hjudged hsame
  refine ⟨by simp [hgrant], by simp [hgrant], by simp [hgrant], by simp [hgrant], hjudged, hsame, ?_⟩
  rw [hseen]
  exact (noticeNow_of_table (by simp) (by simp)).symm

end

/-- Settles O43: the sender's entry, the sum and the starved set are those of `claimCommitted`; Grant Control's part
is an own increment and the look at the YIELD need, or another station's notice. -/
theorem claimsCommitTheirIncrement : Obligations.ClaimsCommitTheirIncrement := by
  intro s f own rest m a ht hstep hbody
  obtain ⟨hw, -, -, hm, -, -⟩ := id hstep
  obtain ⟨hworking, hstation, hrecount⟩ := compared_of_working (rest := rest) hw hm
  obtain ⟨hheard, hothers⟩ := compared_entries rest hm
  have hexec := exec_takeFrame_of_inStep ht hstep (.inr (.inr (.inl (by simp [Frame.kind, hbody, Body.kind]))))
  rw [hbody] at hexec
  have hinc := increment_of_member hheard a.toNat
  rw [compared_free, (compared_table_values s f rest).2.2] at hinc
  have hown : (s.compared f rest).own = s.own := by simp [State.own]
  have houtside : s.sameOutside ((s.compared f rest).applyClaim f.sender a.toNat) :=
    sameOutside_trans (compared_sameOutside s f rest) (by simp [State.sameOutside, State.sameBeside])
  obtain ⟨hcounters, hmask⟩ := applyClaim_counters_mask (s.compared f rest) f.sender a.toNat
  obtain ⟨hmember, hentries, hsum⟩ :=
    claimCommitted_entries hheard ((s.compared f rest).increment f.sender a.toNat)
  obtain ⟨htsn, hepoch, hstarved⟩ := claimCommitted_table_values (s.compared f rest) f.sender
    ((s.compared f rest).increment f.sender a.toNat)
  have hcompared := applyClaim_other (n := f.sender) hworking (s := s) (by simp) (by simp) (by simp)
  have hcomparedOwn := applyClaim_own (n := f.sender) hworking (s := s) (by simp) (by simp) (by simp)
  rw [compared_sum] at hsum
  refine ⟨_, claimCap s.table.starved f.sender m a.toNat, _, claimCap_of_starved, claimCap_of_none_starved, hinc,
    hexec, sameOutside_trans houtside (by simp [State.passed, State.sameOutside, State.sameBeside]), ?_⟩
  have htable : (((s.compared f rest).applyClaim f.sender a.toNat).lookAfter s false).table =
      ((s.compared f rest).claimCommitted f.sender ((s.compared f rest).increment f.sender a.toNat)).table := by
    simp [applyClaim_table]
  rw [← htable] at hmember hentries hsum htsn hepoch hstarved
  refine ⟨by simpa [State.passed] using hstation, by simpa [State.passed] using hcounters,
    by simpa [State.passed] using hmask, by simpa [State.passed] using hrecount, hmember,
    fun n hn => (hentries n hn).trans (hothers n hn), hsum, ?_, htsn.trans (by simp), hepoch.trans (by simp),
    hstarved, by simp [State.passed], by simp [State.passed], ?_⟩
  · have hle : (s.compared f rest).increment f.sender a.toNat ≤ s.budget - s.table.sum := by
      rw [hinc]; exact (min_le_right _ _).trans (min_le_left _ _)
    exact hsum.trans_le (by omega)
  · by_cases hsender : f.sender = s.own
    · obtain ⟨hdemand, hcutoff, hfree, hcut, hraised, hshort, hfull, hjudged, hseen⟩ :=
        hcomparedOwn (hsender.trans hown.symm) a.toNat
      exact ⟨hdemand, hcutoff, fun h => absurd hsender h, fun _ => ⟨hfree, hcut, hraised, hshort, hfull⟩,
        fun _ => hjudged, fun h => absurd hsender h, hseen⟩
    · obtain ⟨hdemand, hcutoff, happlied, hbackoff, hjudged, hsame, hseen⟩ :=
        hcompared (fun h => hsender (h.trans hown)) a.toNat
      exact ⟨hdemand, hcutoff, fun _ => ⟨happlied, hbackoff⟩, fun h => absurd h hsender,
        fun h => hjudged (h.resolve_left hsender), fun _ => hsame, hseen⟩

end Sys2Proof.Machine
end

section
/-! Why TableFramesAreApplied fails: nothing in its first part keeps two CLEARs out of the queue. -/

namespace Sys2Proof.Machine

/-- Station 6, settled, with B 100 and T_yield 256 ms; its queue is full and, as no run leaves it (R144), holds two
CLEARs: the own CLEAR(9) ON_LINE and a CLEAR(10) that waits. A SLOW is due, and H is not the recorded demand. -/
def twoClears : State := { State.reset with
  resetLow := false
  loader := ⟨6, some ⟨0x0F, 0x3A, 0x00, 0x64, 0x00, 0x00, 0x01, 0x02, 0x09, 0x06, 0x03, 0x08, 0x00, 0x00, 0x00,
    0x36⟩, true, some 0x1234, 0, .off⟩
  table := { Table.reset with
    entries := (((List.replicate 32 Entry.absent).set 3 (.member ⟨1, 80, 33, 33, 0, false, false⟩)).set 6
      (.member ⟨1, 80, 20, 34, 0, false, false⟩)).set 9 (.ghost ⟨5, none⟩)
    epoch := 5, tsn := 12 }
  grant := ⟨79, 20, none, false, false, ⟨34, [], false⟩, 80⟩
  ring := { Ring.reset with
    flow := .sending
    entries := List.replicate 8 ⟨⟨3, 5, 12, .clear 9⟩, false⟩ }
  queue := [{ Slot.fresh 0 (.clear 9) with state := .onLine, attempts := 1 }, Slot.fresh 0 (.clear 10),
    Slot.fresh 0 (.beacon false), Slot.fresh 0 (.recount 6 .lost)]
  station := { Station.reset with state := .member } }

/-- Its queue once the CLEAR(9) of station 3 has been taken: the freed units let a CLAIM displace the BEACON, the
slot so freed lets the SLOW displace the CLAIM and the DEMAND the waiting CLEAR(10), and with the slot of kind CLEAR
both CLEARs are gone. -/
theorem twoClears_after_clear : ∃ t, exec .takeFrame twoClears = .next t ∧
    t.queue.map Slot.payload = [.recount 6 .lost, .slow, .demand 79, .claim 59] := ⟨_, rfl, by decide⟩

theorem twoClears_takes : twoClears.takes ⟨⟨3, 5, 12, .clear 9⟩, false⟩
    (List.replicate 7 ⟨⟨3, 5, 12, .clear 9⟩, false⟩) := by
  unfold State.takes; decide

theorem twoClears_inStep :
    twoClears.inStep ⟨3, 5, 12, .clear 9⟩ false ⟨1, 80, 33, 33, 0, false, false⟩ :=
  ⟨by decide, by decide, (admits_iff _ _ _).2 (by decide), by decide, rfl, rfl⟩

/-- Refutes O44: for a queue that holds two CLEARs an ON_LINE own CLEAR of the ghost removed is lost. The first part
of the statement does not ask for `queueOk`, as its second part does. -/
theorem not_tableFramesAreApplied : ¬ Obligations.TableFramesAreApplied := by
  intro h
  obtain ⟨t, hexec, hrest⟩ := h.1 twoClears _ _ _ _ 0 9 twoClears_takes twoClears_inStep (.inr (.inr rfl))
  obtain ⟨-, -, -, -, -, -, -, -, -, -, -, -, -, -, hclear, -⟩ := hrest
  obtain ⟨-, -, hghost, -⟩ := hclear rfl
  obtain ⟨-, -, hkept⟩ := hghost (by decide)
  have hmem : _ ∈ t.queue := hkept _ (List.mem_cons_self ..) rfl rfl
  obtain ⟨t', hexec', hpayloads⟩ := twoClears_after_clear
  obtain rfl : t = t' := Host.Outcome.next.inj (hexec.symm.trans hexec')
  have hpayload := List.mem_map_of_mem (f := Slot.payload) hmem
  rw [hpayloads] at hpayload
  exact absurd hpayload (by decide)

end Sys2Proof.Machine
end

section
/-! What a completed run gives the members (R34 to R37, R39): each of them is capped, with its demand, or left in S,
with its part and perhaps a leftover unit, and together they have the smaller of the shareable budget and the
demands. -/

namespace Sys2Proof.Machine

/-! ### The members as the engine reads them (R32) -/

theorem mem_sharers {t : Table} {i : Sharer} :
    i ∈ t.sharers ↔ ∃ m, t.member? i.station = some m ∧ i.weight = m.weight ∧ i.demand = m.demand := by
  simp only [Table.sharers, List.mem_filterMap, mem_stations, true_and, Option.map_eq_some_iff]
  constructor
  · rintro ⟨n, m, hm, rfl⟩
    exact ⟨m, hm, rfl, rfl⟩
  · rintro ⟨m, hm, hw, hd⟩
    exact ⟨i.station, m, hm, by rw [← hw, ← hd]⟩

theorem sharers_station_sublist (t : Table) : (t.sharers.map Sharer.station).Sublist stations := by
  have h : ∀ l : List StationNo, ((l.filterMap fun n => (t.member? n).map fun m =>
      (⟨n, m.weight, m.demand⟩ : Sharer)).map Sharer.station).Sublist l := by
    intro l
    induction l with
    | nil => exact .slnil
    | cons n l ih =>
      cases hn : t.member? n with
      | none => simpa [hn] using ih.cons n
      | some m => simpa [hn] using ih.cons_cons n
  exact h stations

theorem stations_nodup : stations.Nodup := by decide

theorem sharers_nodup (t : Table) : (t.sharers.map Sharer.station).Nodup :=
  stations_nodup.sublist (sharers_station_sublist t)

theorem sharers_length_le (t : Table) : t.sharers.length ≤ 32 := by
  have h := (sharers_station_sublist t).length_le
  simpa [stations] using h

/-- A sum over the members is one over the entries. -/
theorem foldr_members_eq_sum (t : Table) (g : Sharer → Nat) :
    stations.foldr (fun n k => ((t.member? n).map fun m => g ⟨n, m.weight, m.demand⟩).getD 0 + k) 0 =
      (t.sharers.map g).sum := by
  have h : ∀ l : List StationNo,
      l.foldr (fun n k => ((t.member? n).map fun m => g ⟨n, m.weight, m.demand⟩).getD 0 + k) 0 =
        ((l.filterMap fun n => (t.member? n).map fun m => (⟨n, m.weight, m.demand⟩ : Sharer)).map g).sum := by
    intro l
    induction l with
    | nil => rfl
    | cons n l ih => cases hn : t.member? n <;> simp [hn, ih]
  exact h stations

theorem totalDemand_eq_sum (l : List Sharer) : totalDemand l = (l.map Sharer.demand).sum := by
  induction l <;> simp_all

theorem totalWeight_eq_sum (l : List Sharer) : totalWeight l = (l.map Sharer.weight).sum := by
  induction l <;> simp_all

theorem totalParts_eq_sum (remaining total : Nat) (l : List Sharer) :
    totalParts remaining total l = (l.map fun i => part remaining total i.weight).sum := by
  induction l with
  | nil => rfl
  | cons i l ih =>
    rw [List.map_cons, List.sum_cons, ← ih]
    rfl

theorem totalDemand_sharers (t : Table) : t.totalDemand = totalDemand t.sharers := by
  rw [totalDemand_eq_sum, ← foldr_members_eq_sum]
  rfl

/-- A sum over the members that `p` picks is one over the engine's inputs. -/
theorem totalOf_eq_sum (t : Table) (p : StationNo → Bool) {f : Member → Nat} {g : Sharer → Nat}
    (h : ∀ n m, f m = g ⟨n, m.weight, m.demand⟩) :
    t.totalOf p f = (t.sharers.map fun i => if p i.station = true then g i else 0).sum := by
  rw [← foldr_members_eq_sum]
  unfold Table.totalOf
  congr 1
  funext n k
  cases t.member? n <;> simp [h n]

/-! ### The final share (R37) -/

/-- The parts of the members of S come to no more than R, and lack less than a unit each. -/
theorem totalParts_bounds {remaining total : Nat} (h : 0 < total) (l : List Sharer) :
    totalParts remaining total l * total ≤ remaining * totalWeight l ∧
    remaining * totalWeight l ≤ (totalParts remaining total l + l.length) * total := by
  induction l with
  | nil => simp [totalParts]
  | cons i l ih =>
    obtain ⟨hlow, hhigh⟩ := ih
    have hcons : totalParts remaining total (i :: l) =
        part remaining total i.weight + totalParts remaining total l := rfl
    have hdiv : part remaining total i.weight * total ≤ remaining * i.weight := Nat.div_mul_le_self _ _
    have hmod : remaining * i.weight ≤ (part remaining total i.weight + 1) * total :=
      ((Nat.div_lt_iff_lt_mul h).1 (Nat.lt_succ_self _)).le
    rw [hcons, totalWeight_cons, List.length_cons]
    constructor <;> nlinarith

/-- What is left over is at most a unit for each member of S. -/
theorem leftover_le {remaining : Nat} {left : List Sharer} (h : left ≠ []) (hw : ∀ i ∈ left, 1 ≤ i.weight) :
    totalParts remaining (totalWeight left) left ≤ remaining ∧
    remaining ≤ totalParts remaining (totalWeight left) left + left.length := by
  have hpos := totalWeight_pos h hw
  obtain ⟨hlow, hhigh⟩ := totalParts_bounds (remaining := remaining) hpos left
  exact ⟨Nat.le_of_mul_le_mul_right hlow hpos, Nat.le_of_mul_le_mul_right hhigh hpos⟩

theorem sum_map_ite_one {α : Type} (p : α → Bool) (l : List α) :
    (l.map fun a => if p a = true then 1 else 0).sum = (l.filter p).length := by
  induction l with
  | nil => rfl
  | cons a l ih => by_cases h : p a = true <;> simp [h, ih, Nat.add_comm]

theorem leftoverTakers_sublist (rotor remaining : Nat) (left : List Sharer) :
    (leftoverTakers rotor remaining left).Sublist
      ((rotorOrder rotor).filter fun n => (left.map Sharer.station).contains n) := List.take_sublist ..

/-- The members of S in rotor order are the members of S. -/
theorem rotorOrder_filter_perm (rotor : Nat) {left : List Sharer} (h : (left.map Sharer.station).Nodup) :
    ((rotorOrder rotor).filter fun n => (left.map Sharer.station).contains n).Perm (left.map Sharer.station) := by
  have hperm := rotorOrder_perm rotor
  refine (List.perm_ext_iff_of_nodup ((hperm.nodup_iff.2 stations_nodup).filter _) h).2 fun n => ?_
  simp [List.mem_filter, hperm.mem_iff]

/-- As many members of S receive a unit as units are left over (R37). -/
theorem leftover_units {rotor remaining : Nat} {left : List Sharer} (h : left ≠ [])
    (hw : ∀ i ∈ left, 1 ≤ i.weight) (hn : (left.map Sharer.station).Nodup) :
    (left.map fun i => if (leftoverTakers rotor remaining left).contains i.station = true then 1 else 0).sum =
      remaining - totalParts remaining (totalWeight left) left := by
  have hperm := rotorOrder_filter_perm rotor hn
  have hsub := leftoverTakers_sublist rotor remaining left
  have htakers : (leftoverTakers rotor remaining left).Nodup := (hperm.nodup_iff.2 hn).sublist hsub
  have hcount : ((left.map Sharer.station).filter fun n =>
      (leftoverTakers rotor remaining left).contains n).Perm (leftoverTakers rotor remaining left) := by
    refine (List.perm_ext_iff_of_nodup (hn.filter _) htakers).2 fun n => ?_
    simp only [List.mem_filter, List.contains_iff_mem]
    exact ⟨And.right, fun hm => ⟨hperm.subset (hsub.subset hm), hm⟩⟩
  have hlen : (leftoverTakers rotor remaining left).length =
      remaining - totalParts remaining (totalWeight left) left := by
    have hle := (leftover_le (remaining := remaining) h hw).2
    rw [leftoverTakers, List.length_take, hperm.length_eq, List.length_map]
    omega
  rw [← hlen, ← hcount.length_eq, ← sum_map_ite_one, List.map_map]
  rfl

/-! ### What a run finds (R33 to R37) -/

/-- A run over `members` has set aside or capped `capped`, left `left` in S with the budget `rest`, and found the
entitlements `found`. -/
structure RunSplit (members : List Sharer) (shareable rotor : Nat) (found : List (StationNo × Nat))
    (capped left : List Sharer) (rest : Nat) : Prop where
  perm : (capped ++ left).Perm members
  budget : rest + totalDemand capped = shareable
  found_eq : found = capped.map (fun i => (i.station, i.demand)) ++ finalShare rotor rest left
  left_short : ∀ i ∈ left, part rest (totalWeight left) i.weight < i.demand
  capped_met : left ≠ [] → ∀ i ∈ capped, i.demand ≤ part rest (totalWeight left) i.weight

/-- The entitlements a run finds are those of its passes, whether it makes one or none (R42). -/
theorem result_found (r : Run) : r.result.found =
    (runPasses r.rotor r.share.length r.share r.remaining r.found r.passes 0).found := by
  unfold Run.result
  split
  · rename_i h
    rw [h]
    rfl
  · rfl

/-- A run that works on the table as it stands splits its members so (R32 to R37). -/
theorem runSplit_of_runReads {s : State} {r : Run} (hr : s.runReads r)
    (hw : ∀ n m, s.table.member? n = some m → 1 ≤ m.weight) :
    ∃ capped left rest, RunSplit s.table.sharers (s.budget - s.table.reservations) (s.table.epoch.toNat % 32)
      r.result.found capped left rest := by
  obtain ⟨hshare, hremaining, -, hrotor, hfound⟩ := hr
  have hweights : ∀ i ∈ r.share, 1 ≤ i.weight := by
    intro i hi
    rw [hshare] at hi
    obtain ⟨m, hm, hwm, -⟩ := mem_sharers.1 (List.mem_filter.1 hi).1
    rw [hwm]
    exact hw _ _ hm
  obtain ⟨capped, left, rest, hperm, hbudget, hres, hshort, hmet⟩ :=
    runPasses_found r.rotor r.share.length r.share r.remaining r.found r.passes 0 le_rfl hweights
  have hzero : ∀ i ∈ s.table.sharers.filter (fun i => i.demand == 0), i.demand = 0 := fun i hi => by
    simpa using (List.mem_filter.1 hi).2
  have hnone : totalDemand (s.table.sharers.filter fun i => i.demand == 0) = 0 := by
    rw [totalDemand_eq_sum, List.sum_eq_zero_iff]
    intro d hd
    obtain ⟨i, hi, rfl⟩ := List.mem_map.1 hd
    exact hzero i hi
  refine ⟨s.table.sharers.filter (fun i => i.demand == 0) ++ capped, left, rest, ?_, ?_, ?_, hshort, ?_⟩
  · rw [hshare] at hperm
    rw [List.append_assoc]
    exact (hperm.append_left _).trans (List.filter_append_perm _ _)
  · rw [totalDemand_append, hnone, Nat.zero_add, hbudget, hremaining]
  · rw [result_found, hres, hfound, hrotor, List.map_append, List.append_assoc, List.append_assoc]
    congr 1
    exact List.map_congr_left fun i hi => by rw [hzero i hi]
  · intro hleft i hi
    rcases List.mem_append.1 hi with hi | hi
    · rw [hzero i hi]
      exact Nat.zero_le _
    · exact (hmet hleft).2 i hi

theorem entitlementOf_of_mem {found : List (StationNo × Nat)} (h : (found.map Prod.fst).Nodup) {n : StationNo}
    {e : Nat} (hm : (n, e) ∈ found) : entitlementOf found n = e := by
  unfold entitlementOf
  induction found with
  | nil => cases hm
  | cons p l ih =>
    obtain ⟨hp, hl⟩ := List.nodup_cons.1 (by simpa using h : (p.1 :: l.map Prod.fst).Nodup)
    rcases List.mem_cons.1 hm with rfl | hm
    · simp
    · have hne : p.1 ≠ n := fun heq => hp (heq ▸ List.mem_map_of_mem (f := Prod.fst) hm)
      rw [List.find?_cons_of_neg (by simpa using hne)]
      exact ih hl hm

section
variable {members capped left : List Sharer} {shareable rotor rest : Nat} {found : List (StationNo × Nat)}
  (h : RunSplit members shareable rotor found capped left rest) (hn : (members.map Sharer.station).Nodup)
include h

theorem RunSplit.mem_iff (i : Sharer) : i ∈ members ↔ i ∈ capped ∨ i ∈ left := by
  rw [← h.perm.mem_iff, List.mem_append]

theorem RunSplit.sum_eq (g : Sharer → Nat) : (members.map g).sum = (capped.map g).sum + (left.map g).sum := by
  rw [← (h.perm.map g).sum_eq, List.map_append, List.sum_append]

include hn

theorem RunSplit.station_nodup : (capped.map Sharer.station ++ left.map Sharer.station).Nodup := by
  rw [← List.map_append]
  exact (h.perm.map _).nodup_iff.2 hn

theorem RunSplit.left_nodup : (left.map Sharer.station).Nodup := by
  obtain ⟨-, hleft, -⟩ := List.nodup_append.1 (h.station_nodup hn)
  exact hleft

/-- No member is both capped and left in S. -/
theorem RunSplit.station_ne {i j : Sharer} (hi : i ∈ capped) (hj : j ∈ left) : i.station ≠ j.station := by
  obtain ⟨-, -, hne⟩ := List.nodup_append.1 (h.station_nodup hn)
  exact hne _ (List.mem_map_of_mem hi) _ (List.mem_map_of_mem hj)

theorem RunSplit.found_nodup : (found.map Prod.fst).Nodup := by
  have hkeys : found.map Prod.fst = capped.map Sharer.station ++ left.map Sharer.station := by
    simp [h.found_eq, finalShare, Function.comp_def]
  rw [hkeys]
  exact h.station_nodup hn

/-- A capped member has its demand (R35). -/
theorem RunSplit.entitlement_capped {i : Sharer} (hi : i ∈ capped) : entitlementOf found i.station = i.demand := by
  refine entitlementOf_of_mem (h.found_nodup hn) ?_
  rw [h.found_eq]
  exact List.mem_append_left _ (List.mem_map_of_mem (f := fun i : Sharer => (i.station, i.demand)) hi)

/-- A member left in S has its part, and a unit if it is among the takers of the leftover (R37). -/
theorem RunSplit.entitlement_left {i : Sharer} (hi : i ∈ left) : entitlementOf found i.station =
    part rest (totalWeight left) i.weight +
      if (leftoverTakers rotor rest left).contains i.station = true then 1 else 0 := by
  refine entitlementOf_of_mem (h.found_nodup hn) ?_
  rw [h.found_eq]
  exact List.mem_append_right _ (List.mem_map.2 ⟨i, hi, rfl⟩)

/-- No member's entitlement exceeds its demand (R39). -/
theorem RunSplit.entitlement_le {i : Sharer} (hi : i ∈ members) : entitlementOf found i.station ≤ i.demand := by
  rcases (h.mem_iff i).1 hi with hi | hi
  · rw [h.entitlement_capped hn hi]
  · rw [h.entitlement_left hn hi]
    have hshort := h.left_short i hi
    split <;> omega

/-- The entitlements sum to the smaller of the shareable budget and the demands (R39). -/
theorem RunSplit.entitlement_sum (hw : ∀ i ∈ members, 1 ≤ i.weight) :
    (members.map fun i => entitlementOf found i.station).sum = min shareable (totalDemand members) := by
  have hcapped : (capped.map fun i => entitlementOf found i.station).sum = totalDemand capped := by
    rw [totalDemand_eq_sum]
    exact congrArg List.sum (List.map_congr_left fun i hi => h.entitlement_capped hn hi)
  have hdemand : totalDemand members = totalDemand capped + totalDemand left := by
    simp only [totalDemand_eq_sum]
    exact h.sum_eq _
  have hle : (members.map fun i => entitlementOf found i.station).sum ≤ totalDemand members := by
    rw [totalDemand_eq_sum]
    exact List.sum_le_sum fun i hi => h.entitlement_le hn hi
  have hbudget := h.budget
  by_cases hleft : left = []
  · rw [h.sum_eq, hcapped, hdemand]
    subst hleft
    simp only [List.map_nil, List.sum_nil, totalDemand_nil]
    omega
  · have hwleft : ∀ i ∈ left, 1 ≤ i.weight := fun i hi => hw i ((h.mem_iff i).2 (.inr hi))
    have hsum : (left.map fun i => entitlementOf found i.station).sum = rest := by
      rw [List.map_congr_left fun i hi => h.entitlement_left hn hi, List.sum_map_add, ← totalParts_eq_sum,
        leftover_units hleft hwleft (h.left_nodup hn)]
      have hparts := (leftover_le (remaining := rest) hleft hwleft).1
      omega
    rw [h.sum_eq, hcapped, hsum] at hle ⊢
    omega

end

end Sys2Proof.Machine
end

section
/-! The table a completed run writes, and R39 of it (R40). -/

namespace Sys2Proof.Machine

/-! ### Every entry written anew (R1) -/

theorem stations_getElem? (n : StationNo) : stations[n.val]? = some n := by revert n; decide

theorem entryAt_map {t : Table} {f : StationNo → Entry} (h : t.entries = stations.map f) (n : StationNo) :
    t.entryAt n = f n := by
  simp [Table.entryAt, h, List.getD_eq_getElem?_getD, List.getElem?_map, stations_getElem?]

/-- A table of 32 entries is the list of them. -/
theorem entries_eq_map {t : Table} (h : t.entries.length = 32) : t.entries = stations.map t.entryAt := by
  refine List.ext_getElem (by simp [h, stations]) fun i hi _ => ?_
  have hlt : i < 32 := by omega
  have hstation := stations_getElem? ⟨i, hlt⟩
  rw [List.getElem_map, (List.getElem_eq_iff _).2 hstation]
  simp [Table.entryAt, hi]

theorem mapMembers_entryAt (t : Table) (f : StationNo → Member → Member) (n : StationNo) :
    (t.mapMembers f).entryAt n = match t.entryAt n with
      | .member m => .member (f n m)
      | e => e := by
  exact entryAt_map (t := t.mapMembers f) (f := fun n => match t.entryAt n with
    | .member m => .member (f n m)
    | e => e) rfl n

theorem mapMembers_member? (t : Table) (f : StationNo → Member → Member) (n : StationNo) :
    (t.mapMembers f).member? n = (t.member? n).map (f n) := by
  unfold Table.member?
  rw [mapMembers_entryAt]
  cases t.entryAt n <;> rfl

theorem sumOf_map_congr {g : Entry → Nat} {e e' : StationNo → Entry} (h : ∀ n, g (e n) = g (e' n))
    (l : List StationNo) : sumOf g (l.map e) = sumOf g (l.map e') := by
  induction l with
  | nil => rfl
  | cons n l ih =>
    simp only [sumOf, List.map_cons, List.foldr_cons] at ih ⊢
    rw [ih, h]

theorem mapMembers_length (t : Table) (f : StationNo → Member → Member) :
    (t.mapMembers f).entries.length = 32 := by
  simp [Table.mapMembers, stations]

/-- A sum over the entries that no change of the members moves. -/
theorem mapMembers_sumOf {t : Table} (h : t.entries.length = 32) {f : StationNo → Member → Member}
    {g : Entry → Nat} (hg : ∀ n m, g (.member (f n m)) = g (.member m)) :
    sumOf g (t.mapMembers f).entries = sumOf g t.entries := by
  rw [entries_eq_map h, entries_eq_map (mapMembers_length t f)]
  refine sumOf_map_congr (fun n => ?_) stations
  rw [mapMembers_entryAt]
  generalize t.entryAt n = e
  cases e with
  | member m => exact hg n m
  | _ => rfl

/-! ### The completed run (R40) -/

section
variable (s : State) (r : Run)

/-- The entitlement of member `n` is written. -/
def Member.entitled (found : List (StationNo × Nat)) (n : StationNo) (m : Member) : Member :=
  { m with entitlement := entitlementOf found n }

theorem completeRun_entries : (s.completeRun r).table.entries =
    (s.table.mapMembers (Member.entitled r.result.found)).entries := rfl

theorem completeRun_entryAt (n : StationNo) : (s.completeRun r).table.entryAt n = match s.table.entryAt n with
    | .member m => .member (m.entitled r.result.found n)
    | e => e := by
  rw [← mapMembers_entryAt]
  rfl

theorem completeRun_member? (n : StationNo) : (s.completeRun r).table.member? n =
    (s.table.member? n).map (Member.entitled r.result.found n) := by
  rw [← mapMembers_member?]
  rfl

@[simp] theorem completeRun_values :
    (s.completeRun r).table.entValid = true ∧ (s.completeRun r).table.epoch = s.table.epoch ∧
    (s.completeRun r).table.starved = (s.completeRun r).table.starvedNow ∧
    (s.completeRun r).table.entries.length = 32 ∧ (s.completeRun r).engine.run = none ∧
    (s.completeRun r).engine.lastPasses = r.result.passes :=
  ⟨rfl, rfl, rfl, by simp [State.completeRun, State.recomputeStarved, Table.mapMembers, stations], rfl, rfl⟩

variable {s r}

theorem completeRun_sums (h : s.table.entries.length = 32) :
    (s.completeRun r).table.sum = s.table.sum ∧
    (s.completeRun r).table.reservations = s.table.reservations := by
  unfold Table.sum Table.reservations
  rw [completeRun_entries]
  exact ⟨mapMembers_sumOf h fun _ _ => rfl, mapMembers_sumOf h fun _ _ => rfl⟩

/-- The engine reads no entitlement. -/
theorem completeRun_sharers : (s.completeRun r).table.sharers = s.table.sharers := by
  unfold Table.sharers
  refine List.filterMap_congr fun n _ => ?_
  rw [completeRun_member?]
  cases s.table.member? n <;> rfl

theorem completeRun_totalDemand : (s.completeRun r).table.totalDemand = s.table.totalDemand := by
  rw [totalDemand_sharers, totalDemand_sharers, completeRun_sharers]

theorem completeRun_totalEntitlement : (s.completeRun r).table.totalEntitlement =
    (s.table.sharers.map fun i => entitlementOf r.result.found i.station).sum := by
  rw [← foldr_members_eq_sum]
  unfold Table.totalEntitlement
  congr 1
  funext n k
  rw [completeRun_member?]
  cases s.table.member? n <;> rfl

theorem weight_of_sharer (hw : ∀ n m, s.table.member? n = some m → 1 ≤ m.weight) :
    ∀ i ∈ s.table.sharers, 1 ≤ i.weight := by
  intro i hi
  obtain ⟨m, hm, hwm, -⟩ := mem_sharers.1 hi
  rw [hwm]
  exact hw _ _ hm

/-- R39 of the table that a run leaves. -/
theorem completeRun_shares (hr : s.runReads r) (hw : ∀ n m, s.table.member? n = some m → 1 ≤ m.weight) :
    (∀ n m, (s.completeRun r).table.member? n = some m → m.entitlement ≤ m.demand) ∧
    (s.completeRun r).table.totalEntitlement =
      min (s.budget - s.table.reservations) (s.completeRun r).table.totalDemand := by
  obtain ⟨capped, left, rest, hsplit⟩ := runSplit_of_runReads hr hw
  refine ⟨fun n m hm => ?_, ?_⟩
  · rw [completeRun_member?, Option.map_eq_some_iff] at hm
    obtain ⟨o, ho, rfl⟩ := hm
    exact hsplit.entitlement_le (i := ⟨n, o.weight, o.demand⟩) (sharers_nodup _)
      (mem_sharers.2 ⟨o, ho, rfl, rfl⟩)
  · rw [completeRun_totalEntitlement, completeRun_totalDemand, totalDemand_sharers]
    exact hsplit.entitlement_sum (sharers_nodup _) (weight_of_sharer hw)

/-! ### The entitlements of R34 to R37 -/

theorem sum_filter_split {capped left members : List Sharer} {p : Sharer → Bool} {g : Sharer → Nat}
    (h : (members.map fun i => if p i = true then g i else 0).sum =
      (capped.map fun i => if p i = true then g i else 0).sum + (left.map fun i => if p i = true then g i else 0).sum)
    (hc : ∀ i ∈ capped, p i = false) (hl : ∀ i ∈ left, p i = true) :
    (members.map fun i => if p i = true then g i else 0).sum = (left.map g).sum := by
  rw [h, List.map_congr_left (g := fun _ => 0) (fun i hi => by rw [hc i hi]; rfl),
    List.map_congr_left (l := left) (g := g) fun i hi => if_pos (hl i hi)]
  simp

/-- The entitlements that a run writes are those of R34 to R37. -/
theorem completeRun_sharedOut (hr : s.runReads r) (hw : ∀ n m, s.table.member? n = some m → 1 ≤ m.weight) :
    (s.completeRun r).table.sharedOut (s.budget - s.table.reservations) (s.table.epoch.toNat % 32) := by
  obtain ⟨capped, left, rest, hsplit⟩ := runSplit_of_runReads hr hw
  have hnodup := sharers_nodup s.table
  have hin : ∀ i ∈ left, (left.map Sharer.station).contains i.station = true := fun i hi => by
    simpa using ⟨i, hi, rfl⟩
  have hout : ∀ i ∈ capped, (left.map Sharer.station).contains i.station = false := by
    intro i hi
    rw [Bool.eq_false_iff]
    intro hc
    obtain ⟨j, hj, heq⟩ := List.mem_map.1 (List.contains_iff_mem.1 hc)
    exact hsplit.station_ne hnodup hi hj heq.symm
  have hof : ∀ {f : Member → Nat} {g : Sharer → Nat}, (∀ n m, f m = g ⟨n, m.weight, m.demand⟩) →
      (s.completeRun r).table.totalOf (fun n => (left.map Sharer.station).contains n) f = (left.map g).sum := by
    intro f g hfg
    rw [totalOf_eq_sum _ _ hfg, completeRun_sharers]
    exact sum_filter_split (hsplit.sum_eq _) hout hin
  have hremaining : s.budget - s.table.reservations - (s.completeRun r).table.totalOf
      (fun n => !(left.map Sharer.station).contains n) Member.demand = rest := by
    have hcapped : (s.completeRun r).table.totalOf (fun n => !(left.map Sharer.station).contains n)
        Member.demand = totalDemand capped := by
      rw [totalOf_eq_sum (g := Sharer.demand) _ _ fun _ _ => rfl, completeRun_sharers, totalDemand_eq_sum]
      exact sum_filter_split (capped := left) ((hsplit.sum_eq _).trans (Nat.add_comm _ _))
        (fun i hi => by rw [hin i hi]; rfl) fun i hi => by rw [hout i hi]; rfl
    rw [hcapped]
    have := hsplit.budget
    omega
  have hweight : (s.completeRun r).table.totalOf (fun n => (left.map Sharer.station).contains n)
      Member.weight = totalWeight left := by
    rw [totalWeight_eq_sum]
    exact hof fun _ _ => rfl
  have hparts : (s.completeRun r).table.totalOf (fun n => (left.map Sharer.station).contains n)
      (fun m => rest * m.weight / totalWeight left) = totalParts rest (totalWeight left) left := by
    rw [totalParts_eq_sum]
    exact hof fun _ _ => rfl
  refine ⟨fun n => (left.map Sharer.station).contains n, ?_⟩
  dsimp only
  rw [hremaining, hweight, hparts]
  have hmember : ∀ n m, (s.completeRun r).table.member? n = some m →
      m.entitlement = entitlementOf r.result.found n ∧ (⟨n, m.weight, m.demand⟩ : Sharer) ∈ s.table.sharers := by
    intro n m hm
    rw [completeRun_member?, Option.map_eq_some_iff] at hm
    obtain ⟨o, ho, rfl⟩ := hm
    exact ⟨rfl, mem_sharers.2 ⟨o, ho, rfl, rfl⟩⟩
  refine ⟨fun n hn => ?_, fun n m hm hn => ?_, fun n m hm hn => ?_⟩
  · obtain ⟨i, hi, rfl⟩ := List.mem_map.1 (List.contains_iff_mem.1 hn)
    obtain ⟨m, hm, -⟩ := mem_sharers.1 ((hsplit.mem_iff i).2 (.inr hi))
    rw [completeRun_member?, hm]
    exact ⟨_, rfl⟩
  · obtain ⟨hent, hmem⟩ := hmember n m hm
    have hcapped : (⟨n, m.weight, m.demand⟩ : Sharer) ∈ capped :=
      ((hsplit.mem_iff _).1 hmem).resolve_right fun hl => by
        rw [hin _ hl] at hn
        cases hn
    refine ⟨hent.trans (hsplit.entitlement_capped hnodup hcapped), fun ⟨k, hk⟩ => ?_⟩
    refine hsplit.capped_met (fun hnil => ?_) _ hcapped
    rw [hnil] at hk
    cases hk
  · obtain ⟨hent, hmem⟩ := hmember n m hm
    have hleft : (⟨n, m.weight, m.demand⟩ : Sharer) ∈ left :=
      ((hsplit.mem_iff _).1 hmem).resolve_left fun hc => by
        rw [hout _ hc] at hn
        cases hn
    refine ⟨hsplit.left_short _ hleft, hent.trans ?_⟩
    rw [hsplit.entitlement_left hnodup hleft]
    have hrotor : s.table.epoch.toNat % 32 < 32 := Nat.mod_lt _ (Nat.succ_pos 31)
    have hstation : n ∈ left.map Sharer.station := List.mem_map.2 ⟨_, hleft, rfl⟩
    exact congrArg (part rest (totalWeight left) m.weight + ·)
      (if_congr (List.contains_iff_mem.trans (mem_leftoverTakers hrotor hstation)) rfl rfl)

end

end Sys2Proof.Machine
end

section
/-! The invariants shareInv and weightInv, block by block: what each block must hold, and what keeps it there (R1, R6,
R31 to R33, R39, R124, R194, R197). -/

namespace Sys2Proof.Machine

/-! ### What the engine and R39 read of the table -/

/-- An entry without the fields that neither the Share Engine nor R39 reads. -/
def Entry.shares : Entry → Entry
  | .absent => .absent
  | .member m => .member { m with grant := 0, since := 0, silent := false, confirmed := false }
  | .ghost g => .ghost { g with timer := none }

/-- Both tables hold the same weights, demands, entitlements and reservations. -/
def Table.sameShares (t u : Table) : Prop := t.entries.map Entry.shares = u.entries.map Entry.shares

section
variable {t u : Table}

theorem setEntry_sameShares {n : StationNo} {e : Entry} (h : e.shares = (t.entryAt n).shares) :
    (t.setEntry n e).sameShares t := by
  unfold Table.sameShares Table.setEntry
  rw [List.map_set, h]
  refine List.ext_getElem (by simp) fun i hi hi' => ?_
  rw [List.getElem_set]
  split
  · rename_i hin
    subst hin
    have hlt : n.val < t.entries.length := by simpa using hi'
    simp [Table.entryAt, hlt]
  · rfl

theorem updateMember_sameShares {n : StationNo} {f : Member → Member}
    (h : ∀ m, (Entry.member (f m)).shares = (Entry.member m).shares) : (t.updateMember n f).sameShares t := by
  cases hm : t.member? n with
  | none =>
    rw [updateMember_of_no_member hm]
    rfl
  | some m =>
    rw [updateMember_of_member hm]
    exact setEntry_sameShares (by rw [h, member?_eq_some.1 hm])

theorem mapMembers_sameShares (ht : t.entries.length = 32) {f : StationNo → Member → Member}
    (h : ∀ n m, (Entry.member (f n m)).shares = (Entry.member m).shares) : (t.mapMembers f).sameShares t := by
  unfold Table.sameShares
  rw [entries_eq_map ht, entries_eq_map (mapMembers_length t f), List.map_map, List.map_map]
  refine List.map_congr_left fun n _ => ?_
  simp only [Function.comp_apply, mapMembers_entryAt]
  generalize t.entryAt n = e
  cases e with
  | member m => exact h n m
  | _ => rfl

variable (h : t.sameShares u)
include h

theorem Table.sameShares.length_eq : t.entries.length = u.entries.length := by
  simpa using congrArg List.length h

theorem Table.sameShares.entryAt_shares (n : StationNo) : (t.entryAt n).shares = (u.entryAt n).shares := by
  have hget : ∀ v : Table, (v.entryAt n).shares = (v.entries.map Entry.shares).getD n.val .absent := fun v => by
    simp only [Table.entryAt, List.getD_eq_getElem?_getD, List.getElem?_map]
    cases v.entries[n.val]? <;> rfl
  rw [hget, hget, h]

theorem Table.sameShares.reservations_eq : t.reservations = u.reservations := by
  have hsum : ∀ l : List Entry, sumOf Entry.reserved l = sumOf Entry.reserved (l.map Entry.shares) := by
    intro l
    induction l with
    | nil => rfl
    | cons e l ih =>
      simp only [sumOf, List.map_cons, List.foldr_cons] at ih ⊢
      rw [ih]
      cases e <;> rfl
  unfold Table.reservations
  rw [hsum t.entries, h, ← hsum]

/-- A member is one in both tables, with the same weight, demand and entitlement. -/
theorem Table.sameShares.member? {n : StationNo} {m : Member} (hm : t.member? n = some m) :
    ∃ o, u.member? n = some o ∧ m.weight = o.weight ∧ m.demand = o.demand ∧ m.entitlement = o.entitlement := by
  have hn := h.entryAt_shares n
  rw [member?_eq_some.1 hm] at hn
  cases ho : u.entryAt n with
  | member o =>
    rw [ho] at hn
    simp only [Entry.shares, Entry.member.injEq, Member.mk.injEq, and_true, true_and] at hn
    exact ⟨o, member?_eq_some.2 ho, hn⟩
  | _ =>
    rw [ho] at hn
    cases hn

theorem Table.sameShares.symm : u.sameShares t := Eq.symm h

/-- What is read of the members by these fields alone is the same. -/
theorem Table.sameShares.map_member? {α : Type} (n : StationNo) {f : Member → α}
    (hf : ∀ m o : Member, m.weight = o.weight → m.demand = o.demand → m.entitlement = o.entitlement → f m = f o) :
    (t.member? n).map f = (u.member? n).map f := by
  cases hm : t.member? n with
  | some m =>
    obtain ⟨o, ho, hweight, hdemand, hent⟩ := h.member? hm
    rw [ho, Option.map_some, Option.map_some, hf m o hweight hdemand hent]
  | none =>
    cases ho : u.member? n with
    | none => rfl
    | some o =>
      obtain ⟨m, hm', -⟩ := h.symm.member? ho
      rw [hm] at hm'
      cases hm'

theorem Table.sameShares.totals_eq :
    t.totalDemand = u.totalDemand ∧ t.totalEntitlement = u.totalEntitlement ∧ t.sharers = u.sharers := by
  refine ⟨?_, ?_, List.filterMap_congr fun n _ => h.map_member? n fun m o hw hd _ => by rw [hw, hd]⟩
  · unfold Table.totalDemand
    simp only [h.map_member? _ fun m o _ hd _ => hd]
  · unfold Table.totalEntitlement
    simp only [h.map_member? _ fun m o _ _ he => he]

end

/-! ### The table and the engine (R1, R6, R31 to R33, R39) -/

/-- The part of the invariants that lies in table, engine and budget. -/
structure State.tableInv (s : State) : Prop where
  length_eq : s.table.entries.length = 32
  idle : s.engine.run = none → s.table.entValid = true ∧ s.sharesBudget
  running : ∀ r, s.engine.run = some r → s.table.entValid = false ∧ s.runReads r
  weights : ∀ n m, s.table.member? n = some m → 1 ≤ m.weight

section
variable {s t : State}

theorem State.tableInv.of_sameShares (h : s.tableInv) (htable : t.table.sameShares s.table)
    (hepoch : t.table.epoch = s.table.epoch) (hvalid : t.table.entValid = s.table.entValid)
    (hrun : t.engine.run = s.engine.run) (hbudget : t.budget = s.budget) : t.tableInv := by
  obtain ⟨hdemand, hent, hsharers⟩ := htable.totals_eq
  refine ⟨htable.length_eq.trans h.length_eq, fun hr => ?_, fun r hr => ?_, fun n m hm => ?_⟩
  · obtain ⟨hv, hle, hsum⟩ := h.idle (hrun ▸ hr)
    refine ⟨hvalid.trans hv, fun n m hm => ?_, ?_⟩
    · obtain ⟨o, ho, -, hd, he⟩ := htable.member? hm
      rw [hd, he]
      exact hle n o ho
    · rw [hent, hdemand, hbudget, htable.reservations_eq]
      exact hsum
  · obtain ⟨hv, hreads⟩ := h.running r (hrun ▸ hr)
    refine ⟨hvalid.trans hv, ?_⟩
    unfold State.runReads at hreads ⊢
    rw [hsharers, hbudget, htable.reservations_eq, hepoch]
    exact hreads
  · obtain ⟨o, ho, hw, -⟩ := htable.member? hm
    rw [hw]
    exact h.weights n o ho

theorem budget_of_loader (h : t.loader = s.loader) : t.budget = s.budget := by
  unfold State.budget State.config
  rw [h]

theorem State.tableInv.of_same (h : s.tableInv) (htable : t.table = s.table)
    (hrun : t.engine.run = s.engine.run) (hloader : t.loader = s.loader) : t.tableInv :=
  h.of_sameShares (by rw [htable]; rfl) (by rw [htable]) (by rw [htable]) hrun (budget_of_loader hloader)

/-- An empty table shares nothing out (R9). -/
theorem tableInv_of_empty (hlength : t.table.entries.length = 32) (hempty : ∀ n, t.table.entryAt n = .absent)
    (hrun : t.engine.run = none) (hvalid : t.table.entValid = true) : t.tableInv := by
  have hnone : ∀ n, t.table.member? n = none := fun n => by simp [Table.member?, hempty]
  have hzero : t.table.totalEntitlement = 0 ∧ t.table.totalDemand = 0 := by
    simp [Table.totalEntitlement, Table.totalDemand, hnone, stations]
  refine ⟨hlength, fun _ => ⟨hvalid, fun n m hm => ?_, ?_⟩, fun r hr => ?_, fun n m hm => ?_⟩
  · rw [hnone] at hm
    cases hm
  · rw [hzero.1, hzero.2, Nat.min_zero]
  · rw [hrun] at hr
    cases hr
  · rw [hnone] at hm
    cases hm

/-- A run just started works on the table as it stands (R31 to R33). -/
theorem startRun_tableInv (work : RunWork) (hlength : s.table.entries.length = 32)
    (hw : ∀ n m, s.table.member? n = some m → 1 ≤ m.weight) : (s.startRun work).tableInv := by
  refine ⟨hlength, fun hr => ?_, fun r hr => ?_, hw⟩
  · cases hr
  · obtain ⟨r', hr', hreads, -⟩ := startRun_run s work
    obtain rfl := Option.some.inj (hr.symm.trans hr')
    exact ⟨rfl, hreads⟩

/-- A completed run leaves R39 (R40). -/
theorem completeRun_tableInv {r : Run} (h : s.tableInv) (hr : s.engine.run = some r) :
    (s.completeRun r).tableInv := by
  obtain ⟨-, hreads⟩ := h.running r hr
  obtain ⟨hle, hsum⟩ := completeRun_shares hreads h.weights
  refine ⟨by simp, fun _ => ⟨rfl, hle, ?_⟩, fun r' hr' => ?_, fun n m hm => ?_⟩
  · rw [hsum, budget_of_loader (t := s.completeRun r) (s := s) (by simp), (completeRun_sums h.length_eq).2]
  · cases hr'
  · rw [completeRun_member?, Option.map_eq_some_iff] at hm
    obtain ⟨o, ho, rfl⟩ := hm
    exact h.weights n o ho

/-! ### Frames, records and the queue (R124) -/

/-- A slot's values state weights of at least 1, if they state any. -/
def Slot.weighs (sl : Slot) : Prop := sl.payload.weighs ∧ ∀ p, sl.followOn = some p → p.weighs

def queueWeighs (q : List Slot) : Prop := ∀ sl ∈ q, sl.weighs

def Ring.weighs (x : Ring) : Prop := ∀ e ∈ x.entries, e.frame.body.weighs

def Tx.weighs (x : Tx) : Prop := ∀ f, x = .sending f → f.body.weighs

def Recount.weighs (x : Recount) : Prop :=
  (∀ r ∈ x.reports, 1 ≤ r.weight) ∧ ∀ o, x.ownReport = some o → 1 ≤ o.weight

theorem weighs_of_kind {p : Payload} (h : p.kind ≠ .report) : p.weighs := by
  cases p with
  | report => exact absurd rfl h
  | _ => trivial

theorem queueWeighs.subset {q r : List Slot} (h : queueWeighs q) (hr : r ⊆ q) : queueWeighs r :=
  fun sl hsl => h sl (hr hsl)

theorem queueWeighs.filter {q : List Slot} (h : queueWeighs q) (f : Slot → Bool) : queueWeighs (q.filter f) :=
  h.subset (List.filter_subset_self _)

theorem queueWeighs.append_fresh {q : List Slot} (h : queueWeighs q) (now : Time) {p : Payload} (hp : p.weighs) :
    queueWeighs (q ++ [Slot.fresh now p]) := by
  intro sl hsl
  rcases List.mem_append.1 hsl with hsl | hsl
  · exact h sl hsl
  · rw [List.mem_singleton.1 hsl]
    exact ⟨hp, fun r hr => by cases hr⟩

theorem queueWeighs.map {q : List Slot} (h : queueWeighs q) {f : Slot → Slot}
    (hf : ∀ sl : Slot, sl.weighs → (f sl).weighs) : queueWeighs (q.map f) := by
  intro sl hsl
  obtain ⟨o, ho, rfl⟩ := List.mem_map.1 hsl
  exact hf o (h o ho)

theorem queueWeighs.updateSlot {q : List Slot} (h : queueWeighs q) (k : Kind) {f : Slot → Slot}
    (hf : ∀ sl : Slot, sl.weighs → (f sl).weighs) : queueWeighs (updateSlot k f q) := by
  refine h.map fun sl hsl => ?_
  split
  · exact hf sl hsl
  · exact hsl

theorem requested_weighs {p : Payload} (hp : p.weighs) {sl : Slot} (h : sl.weighs) : (sl.requested p).weighs := by
  unfold Slot.requested
  split
  · refine ⟨h.1, fun r hr => ?_⟩
    dsimp only at hr
    split at hr
    · exact h.2 r hr
    · obtain rfl := Option.some.inj hr
      exact hp
  · exact ⟨hp, h.2⟩

theorem queueWeighs.enqueue {q : List Slot} (h : queueWeighs q) (now : Time) {p : Payload} (hp : p.weighs) :
    queueWeighs (enqueue now p q) := by
  unfold Machine.enqueue
  split
  · exact h.updateSlot _ fun sl => requested_weighs hp
  · split
    · exact h.append_fresh now hp
    · split
      · exact h
      · exact (h.filter _).append_fresh now hp

theorem queueWeighs.finishing {q : List Slot} (h : queueWeighs q) (k : Kind) : queueWeighs (withdraw k q) :=
  (h.filter _).updateSlot k fun _ hsl => ⟨hsl.1, fun p hp => by cases hp⟩

theorem queueWeighs.flushed {q : List Slot} (h : queueWeighs q) : queueWeighs (flush q) :=
  (h.filter _).map fun _ hsl => ⟨hsl.1, fun p hp => by cases hp⟩

theorem latest_weighs {sl : Slot} (h : sl.weighs) : sl.latest.weighs := by
  unfold Slot.latest
  cases hf : sl.followOn with
  | none => exact h.1
  | some p => exact h.2 p hf

/-- The frame formed of a payload states the payload's weight (R126). -/
theorem formFrame_weighs (s : State) {p : Payload} (h : p.weighs) : (s.formFrame p).body.weighs := by
  cases p with
  | report => exact h
  | _ => trivial

/-! ### The whole invariant -/

/-- shareInv and weightInv together, by block. -/
structure State.sound (s : State) : Prop where
  table : s.tableInv
  unloaded : ¬ s.loaded → s.engine.run = none ∧ (∀ n, s.table.entryAt n = .absent) ∧ s.recount = Recount.reset ∧
    s.station.listenTimer = none ∧ s.station.listenWaiting = false ∧ s.station.holdTimer = none
  ring : s.ring.weighs
  line : s.line.tx.weighs
  queue : queueWeighs s.queue
  recount : s.recount.weighs
  weight : s.loaded → 1 ≤ s.weight ∧ s.weight ≤ 15

theorem sound_iff : s.sound ↔ s.shareInv ∧ s.weightInv := by
  have hloaded : ¬ s.loaded ↔ s.station.state = .loading ∨ s.station.state = .fault := by
    unfold State.loaded
    tauto
  constructor
  · rintro ⟨⟨hlength, hidle, hrunning, hweights⟩, hunloaded, hring, hline, hqueue, ⟨hreports, hown⟩, hweight⟩
    exact ⟨⟨hlength, fun h => hunloaded (hloaded.2 h), hidle, hrunning⟩,
      hweights, hring, hline, hqueue, hreports, hown, hweight⟩
  · rintro ⟨⟨hlength, hunloaded, hidle, hrunning⟩, hweights, hring, hline, hqueue, hreports, hown, hweight⟩
    exact ⟨⟨hlength, hidle, hrunning, hweights⟩, fun h => hunloaded (hloaded.1 h), hring, hline, hqueue,
      ⟨hreports, hown⟩, hweight⟩

theorem weight_of_loader (h : t.loader = s.loader) : t.weight = s.weight := by
  unfold State.weight State.config
  rw [h]

/-- Nothing that the invariant reads has changed, but for the frames of ring, line and queue. -/
theorem State.sound.of_frames (h : s.sound) (hring : t.ring.weighs) (hline : t.line.tx.weighs)
    (hqueue : queueWeighs t.queue) (hframe : t.loader = s.loader ∧ t.table = s.table ∧
      t.engine.run = s.engine.run ∧ t.recount = s.recount ∧ t.station = s.station) : t.sound := by
  obtain ⟨hloader, htable, hrun, hrecount, hstation⟩ := hframe
  refine ⟨h.table.of_same htable hrun hloader, ?_, hring, hline, hqueue, ?_, ?_⟩
  · simp only [State.loaded, hstation, hrun, htable, hrecount]
    exact h.unloaded
  · rw [hrecount]
    exact h.recount
  · simp only [State.loaded, hstation, weight_of_loader hloader]
    exact h.weight

/-- Nothing that the invariant reads has changed, but for the queue. -/
theorem State.sound.of_queue (h : s.sound) (hqueue : queueWeighs t.queue) (hframe : t.loader = s.loader ∧
    t.line.tx = s.line.tx ∧ t.ring.entries = s.ring.entries ∧ t.table = s.table ∧
    t.engine.run = s.engine.run ∧ t.recount = s.recount ∧ t.station = s.station) : t.sound := by
  obtain ⟨hloader, hline, hring, hrest⟩ := hframe
  refine h.of_frames ?_ (hline ▸ h.line) hqueue ⟨hloader, hrest⟩
  unfold Ring.weighs
  rw [hring]
  exact h.ring

/-- Out of LOADING and FAULT, recount and station may change too. -/
theorem State.sound.of_loaded (h : s.sound) (hs : s.loaded) (ht : t.loaded) (hloader : t.loader = s.loader)
    (htable : t.tableInv) (hring : t.ring.weighs) (hline : t.line.tx.weighs) (hqueue : queueWeighs t.queue)
    (hrecount : t.recount.weighs) : t.sound := by
  refine ⟨htable, fun hn => absurd ht hn, hring, hline, hqueue, hrecount, fun _ => ?_⟩
  rw [weight_of_loader hloader]
  exact h.weight hs

theorem State.sound.loaded_of_run {r : Run} (h : s.sound) (hr : s.engine.run = some r) : s.loaded := by
  by_contra hn
  rw [(h.unloaded hn).1] at hr
  cases hr

theorem State.sound.loaded_of_recount (h : s.sound) (hr : s.recount ≠ Recount.reset) : s.loaded := by
  by_contra hn
  obtain ⟨-, -, hreset, -⟩ := h.unloaded hn
  exact hr hreset

theorem loaded_of_takesPart (h : s.takesPart) : s.loaded := by
  rcases h with h | h <;> simp [State.loaded, h]

end

end Sys2Proof.Machine
end

section
/-! What the operations of the blocks keep of the invariants: queue, Grant Control, Station Controller, Recount
Controller, standing conditions. -/

namespace Sys2Proof.Machine

section
variable {s t : State} (h : s.sound)
include h

/-! ### Transmit Queue -/

theorem enqueue_sound {p : Payload} (hp : p.weighs) : (s.enqueue p).sound :=
  h.of_queue (h.queue.enqueue _ hp) (by simp)

theorem withdraw_sound (k : Kind) : (s.withdraw k).sound := h.of_queue (h.queue.finishing k) (by simp)

theorem withdrawWaiting_sound (k : Kind) : (s.withdrawWaiting k).sound := h.of_queue (h.queue.filter _) (by simp)

theorem freeSlot_sound (k : Kind) : (s.withQueue (freeSlot k s.queue)).sound :=
  h.of_queue (h.queue.filter _) (by simp)

theorem updateSlot_sound (k : Kind) {f : Slot → Slot} (hf : ∀ sl : Slot, sl.weighs → (f sl).weighs) :
    (s.withQueue (updateSlot k f s.queue)).sound := h.of_queue (h.queue.updateSlot k hf) (by simp)

/-! ### Events, time, port and Grant Control, of which the invariants read nothing -/

theorem withGrant_sound (x : Grant) : (s.withGrant x).sound := h.of_queue h.queue (by simp)

theorem raise_sound (e : Event) : (s.raise e).sound := h.of_queue h.queue (by simp)

theorem reach_sound (x : Time) : (s.reach x).sound := h.of_queue h.queue (by simp)

theorem answer_sound (n : Nat) (x : Status) (d : List Byte) : (s.answer n x d).sound :=
  h.of_queue h.queue (by simp)

theorem countRecount_sound : s.countRecount.sound := h.of_queue h.queue (by simp)

theorem countStale_sound : s.countStale.sound := h.of_queue h.queue (by simp)

/-- The timers of the Station Controller change, out of LOADING and FAULT or but for those of R197. -/
theorem withStation_sound {x : Station} (hstate : x.state = s.station.state)
    (htimers : s.loaded ∨ x.listenTimer = s.station.listenTimer ∧ x.listenWaiting = s.station.listenWaiting ∧
      x.holdTimer = s.station.holdTimer) : (s.withStation x).sound := by
  refine ⟨h.table.of_same rfl rfl rfl, fun hn => ?_, h.ring, h.line, h.queue, h.recount, fun hl => h.weight ?_⟩
  · have hs : ¬ s.loaded := by simpa [State.loaded, hstate] using hn
    obtain ⟨hlisten, hwaiting, hhold⟩ := htimers.resolve_left hs
    simp only [withStation_station, hlisten, hwaiting, hhold]
    exact h.unloaded hs
  · simpa [State.loaded, hstate] using hl

theorem noticeZero_sound : s.noticeZero.sound := by
  unfold State.noticeZero
  split
  · rename_i hcond
    exact withStation_sound h rfl (.inl (by simp [State.loaded, hcond.1]))
  · exact h

theorem createLower_sound (c : LowerCause) (n : Nat) : (s.createLower c n).sound :=
  withdrawWaiting_sound (raise_sound (withGrant_sound h _) _) _

theorem clearLower_sound : s.clearLower.sound := withGrant_sound h _

theorem satisfyLower_sound : s.satisfyLower.sound := h.of_queue (by simpa using h.queue) (by simp)

theorem recheckYield_sound (r : LowerRequest) : (s.recheckYield r).sound :=
  h.of_queue (by simpa using h.queue) (by simp)

theorem lookYield_sound : s.lookYield.sound := by
  unfold State.lookYield
  split
  · split
    · split
      · exact createLower_sound h _ _
      · exact h
    · split
      · exact h
      · exact recheckYield_sound h _
  · exact h

theorem lowerApplied_sound (v : Nat) : (s.lowerApplied v).sound :=
  noticeZero_sound (lookYield_sound (withdrawWaiting_sound (satisfyLower_sound (withGrant_sound h _)) _))

theorem cutOff_sound : s.cutOff.sound :=
  noticeZero_sound (raise_sound (withdrawWaiting_sound (withGrant_sound h _) _) _)

theorem isolateLower_sound : s.isolateLower.sound := by
  unfold State.isolateLower
  split
  · exact clearLower_sound h
  · split
    · exact createLower_sound h _ _
    · dsimp only
      split
      · exact withGrant_sound h _
      · exact raise_sound (withGrant_sound h _) _

theorem noticeChanged_sound : s.noticeChanged.sound := withGrant_sound h _

theorem giveNotices_sound (clear : Bool) : (s.giveNotices clear).sound := by
  unfold State.giveNotices
  split
  · exact lookYield_sound (noticeChanged_sound (withGrant_sound h _))
  · split
    · exact h
    · exact lookYield_sound (noticeChanged_sound h)

theorem ownClaimNotices_sound (inc a : Nat) : (s.ownClaimNotices inc a).sound :=
  lookYield_sound (noticeChanged_sound (h.of_queue (by simpa using h.queue) (by simp)))

/-! ### The table -/

/-- Fields of the table change that neither the engine nor R39 reads. -/
theorem withTable_sound {x : Table} (htable : x.sameShares s.table) (hepoch : x.epoch = s.table.epoch)
    (hvalid : x.entValid = s.table.entValid) : (s.withTable x).sound := by
  refine ⟨h.table.of_sameShares htable hepoch hvalid rfl rfl, fun hn => ?_, h.ring, h.line, h.queue, h.recount,
    h.weight⟩
  obtain ⟨hrun, hempty, hrest⟩ := h.unloaded hn
  refine ⟨hrun, fun n => ?_, hrest⟩
  have hn := htable.entryAt_shares n
  rw [hempty] at hn
  rw [withTable_table]
  cases he : x.entryAt n with
  | absent => rfl
  | _ =>
    rw [he] at hn
    cases hn

theorem setSuspect_sound : s.setSuspect.sound := by
  have hs : (s.withTable { s.table with suspect := true }).sound := withTable_sound h rfl rfl rfl
  unfold State.setSuspect
  dsimp only
  split
  · exact hs
  · exact withdrawWaiting_sound hs _

theorem setDiverged_sound : s.setDiverged.sound := by
  have hs : (s.withTable { s.table with diverged := true }).sound := withTable_sound h rfl rfl rfl
  unfold State.setDiverged
  dsimp only
  split
  · exact hs
  · exact withdrawWaiting_sound hs _

theorem recomputeStarved_sound : s.recomputeStarved.sound := withTable_sound h rfl rfl rfl

theorem takeSnapshotNow_sound : s.takeSnapshotNow.sound := withTable_sound h rfl rfl rfl

/-! ### Station Controller -/

omit h in
theorem enter_table_entryAt (s : State) (x : StationState) (n : StationNo) :
    (s.enter x).table.entryAt n = .absent :=
  (by decide : ∀ k, Table.reset.entryAt k = .absent) n

/-- An entry to a state clears every block that the invariants read (R99); a record in range must be held. -/
theorem enter_sound_of {x : StationState} (hx : x ≠ .loading ∧ x ≠ .fault) (hw : 1 ≤ s.weight ∧ s.weight ≤ 15) :
    (s.enter x).sound := by
  have hweight : (s.enter x).weight = s.weight := weight_of_loader (by simp)
  refine ⟨tableInv_of_empty (by simp [Table.cleared, Table.reset]) (enter_table_entryAt s x) rfl rfl,
    fun hn => absurd hx hn, fun e he => ?_, h.line, h.queue.flushed, ⟨fun r hr => ?_, fun o ho => ?_⟩,
    fun _ => by rwa [hweight]⟩
  · cases he
  · cases hr
  · cases ho

theorem enter_sound {x : StationState} (hs : s.loaded) (hx : x ≠ .loading ∧ x ≠ .fault) : (s.enter x).sound :=
  enter_sound_of h hx (h.weight hs)

theorem enterListen_sound_of (hw : 1 ≤ s.weight ∧ s.weight ≤ 15) : s.enterListen.sound :=
  withStation_sound (enter_sound_of h (by simp) hw) rfl (.inl (by simp [State.loaded]))

theorem enterIsolated_sound (hs : s.loaded) : s.enterIsolated.sound :=
  noticeZero_sound (isolateLower_sound (raise_sound (enter_sound h hs (by simp)) _))

theorem requestIsolated_sound : s.requestIsolated.sound := by
  unfold State.requestIsolated
  split
  · exact enterIsolated_sound h (loaded_of_takesPart ‹_›)
  · exact h

theorem requestBarred_sound : s.requestBarred.sound := by
  unfold State.requestBarred
  split
  · rename_i hcond
    have hs : s.loaded := hcond.elim loaded_of_takesPart fun hi => by simp [State.loaded, hi]
    exact isolateLower_sound (raise_sound (enter_sound h hs (by simp)) _)
  · exact h

theorem lookFlow_sound : s.lookFlow.sound := by
  unfold State.lookFlow
  split
  · refine enqueue_sound ?_ (by trivial)
    exact h.of_queue h.queue (by simp)
  · exact h

theorem enterMember_sound (hs : s.loaded) : s.enterMember.sound :=
  lookFlow_sound (h.of_loaded hs (by simp [State.loaded, Station.entered]) rfl (h.table.of_same rfl rfl rfl)
    h.ring h.line h.queue h.recount)

/-! ### Recount Controller -/

/-- Out of LOADING and FAULT what the Recount Controller holds beside its reports is free. -/
theorem withRecount_sound (hs : s.loaded) {x : Recount} (hx : x.weighs) : (s.withRecount x).sound :=
  h.of_loaded hs hs rfl (h.table.of_same rfl rfl rfl) h.ring h.line h.queue hx

theorem giveEpoch_sound (hs : s.loaded) (x : Half) : (s.giveEpoch x).sound := withRecount_sound h hs h.recount

theorem requestRecount_sound (hs : s.loaded) (c : Cause) : (s.requestRecount c).sound := by
  have hq : ∀ x c', (s.enqueue (.recount x c')).sound := fun x c' => enqueue_sound h trivial
  unfold State.requestRecount
  dsimp only
  split
  · exact hq _ _
  · refine withdrawWaiting_sound ?_ _
    exact withRecount_sound (hq _ _) hs (hq _ _).recount

theorem addPending_sound (hs : s.loaded) (c : Cause) : (s.addPending c).sound := by
  unfold State.addPending
  split
  · exact h
  · refine withdrawWaiting_sound ?_ _
    exact withRecount_sound h hs h.recount

theorem giveCause_sound (c : Cause) : (s.giveCause c).sound := by
  unfold State.giveCause
  split
  · rename_i hstate _
    have hs : s.loaded := by simp [State.loaded, hstate]
    split
    · exact addPending_sound h hs c
    · exact requestRecount_sound h hs c
  · rename_i hstate _
    exact requestRecount_sound h (by simp [State.loaded, hstate]) c
  · rename_i hstate _
    split
    · exact requestRecount_sound h (by simp [State.loaded, hstate]) c
    · exact h
  · exact h

/-- Requested is clear in LOADING and FAULT already (R69). -/
theorem requestedCleared_sound : (s.withRecount { s.recount with requested := false }).sound := by
  by_cases hs : s.loaded
  · exact withRecount_sound h hs h.recount
  · obtain ⟨-, -, hreset, -⟩ := h.unloaded hs
    refine h.of_queue h.queue ?_
    simp [hreset, Recount.reset]

theorem recountBack_sound : s.recountBack.sound := by
  unfold State.recountBack
  split
  · exact h
  · exact requestedCleared_sound h

theorem withdrawForWindow_sound : s.withdrawForWindow.sound :=
  withdraw_sound (withdraw_sound (withdraw_sound (withdraw_sound (withdraw_sound (withdraw_sound h _) _) _) _) _) _

/-- The own report states the configured weight, which lies in 1 to 15 (R79, R194). -/
theorem reportPayload_weighs (hs : s.loaded) (target : Half) : (s.reportPayload target).weighs := by
  obtain ⟨hlow, hhigh⟩ := h.weight hs
  intro hzero
  have hnat := congrArg BitVec.toNat hzero
  rw [BitVec.toNat_ofNat, Nat.mod_eq_of_lt (by omega)] at hnat
  simp at hnat
  omega

theorem windowEntry_sound (hs : s.loaded) (target : Half) : (s.windowEntry target).sound := by
  unfold State.windowEntry
  split
  · exact requestIsolated_sound h
  · have hpayload := reportPayload_weighs h hs target
    refine countRecount_sound (raise_sound (enqueue_sound (withdrawForWindow_sound (withStation_sound ?_ ?_ ?_))
      hpayload) _)
    · refine withRecount_sound h hs ⟨fun r hr => ?_, fun o ho => ?_⟩
      · cases hr
      · obtain rfl := Option.some.inj ho
        exact (h.weight hs).1
    · rfl
    · exact .inl hs

theorem absorb_sound : s.absorb.sound := by
  unfold State.absorb
  split
  · exact requestedCleared_sound (withdrawWaiting_sound h _)
  · exact h

theorem judgeRecount_sound (hs : s.loaded) (target : Half) : (s.judgeRecount target).sound := by
  unfold State.judgeRecount
  split
  · split
    · exact windowEntry_sound h hs _
    · split
      · exact absorb_sound h
      · split
        · exact windowEntry_sound h hs _
        · exact countStale_sound h
  · split
    · exact windowEntry_sound h hs _
    · exact countStale_sound h

theorem takeRecount_sound (hs : s.loaded) (target : Half) (own : Bool) : (s.takeRecount target own).sound := by
  unfold State.takeRecount
  dsimp only
  split
  · exact recountBack_sound (judgeRecount_sound h hs target)
  · exact judgeRecount_sound h hs target

omit h in
theorem recordReport_mem {r o : ReportRecord} {l : List ReportRecord} (ho : o ∈ recordReport r l) :
    o = r ∨ o ∈ l := by
  unfold recordReport at ho
  split at ho
  · obtain ⟨x, hx, rfl⟩ := List.mem_map.1 ho
    split
    · exact .inl rfl
    · exact .inr hx
  · rcases List.mem_append.1 ho with ho | ho
    · exact .inr ho
    · exact .inl (List.mem_singleton.1 ho)

theorem windowReport_sound (hs : s.loaded) {r : ReportRecord} (hr : 1 ≤ r.weight) (target : Half) :
    (s.windowReport r target).sound := by
  unfold State.windowReport
  split
  · exact h
  · split
    · split
      · exact withRecount_sound h hs h.recount
      · exact countStale_sound h
    · split
      · refine withRecount_sound h hs ⟨fun o ho => ?_, h.recount.2⟩
        rcases recordReport_mem ho with rfl | ho
        · exact hr
        · exact h.recount.1 o ho
      · split
        · exact h
        · exact countStale_sound h

/-! ### The close, a lone formation, the settle -/

/-- A table whose entries are all written anew, with members of weight 1 or more, and a run over it. -/
theorem startRun_sound (hs : s.loaded) {x : Table} (hlength : x.entries.length = 32)
    (hw : ∀ n m, x.member? n = some m → 1 ≤ m.weight) (htable : t.table = x) (work : RunWork)
    (hframe : t.loader = s.loader ∧ t.line = s.line ∧ t.ring.entries = s.ring.entries ∧ t.queue ⊆ s.queue ∧
      t.station = s.station) (hrecount : t.recount.weighs) : (t.startRun work).sound := by
  obtain ⟨hloader, hline, hring, hqueue, hstation⟩ := hframe
  refine h.of_loaded hs (by simpa [State.loaded, hstation] using hs) (by simpa using hloader)
    (startRun_tableInv work (htable ▸ hlength) (htable ▸ hw)) ?_ ?_ ?_ (by simpa using hrecount)
  · simpa [Ring.weighs, hring] using h.ring
  · simpa [hline] using h.line
  · simpa using h.queue.subset hqueue

omit h in
theorem member?_of_map {x : Table} {f : StationNo → Entry} (hx : x.entries = stations.map f) {n : StationNo}
    {m : Member} (hm : x.member? n = some m) : f n = .member m := by
  rw [member?_eq_some, entryAt_map hx] at hm
  exact hm

theorem ownReportValues_weight (hs : s.loaded) : 1 ≤ s.ownReportValues.weight := by
  unfold State.ownReportValues
  cases ho : s.recount.ownReport with
  | none => exact (h.weight hs).1
  | some o => exact h.recount.2 o ho

/-- Every member that a close makes has the weight of a report (R84). -/
theorem closedEntry_weight (hs : s.loaded) {n : StationNo} {m : Member} (hm : s.closedEntry n = .member m) :
    1 ≤ m.weight := by
  unfold State.closedEntry at hm
  split at hm
  · obtain rfl := Entry.member.inj hm
    exact ownReportValues_weight h hs
  · split at hm
    · rename_i r hr
      obtain rfl := Entry.member.inj hm
      exact h.recount.1 r (List.mem_of_find?_eq_some hr)
    · unfold Entry.afterClose at hm
      (repeat' split at hm) <;> cases hm

theorem rebuild_sound (hs : s.loaded) : s.rebuild.sound :=
  startRun_sound h hs (x := s.closedTable) (by simp [State.closedTable, stations])
    (fun _ _ hm => closedEntry_weight h hs (member?_of_map (x := s.closedTable) rfl hm)) rfl .close
    (by simp) h.recount

theorem formAlone_sound (hs : s.loaded) : s.formAlone.sound := by
  refine startRun_sound h hs (x := s.loneTable) (by simp [State.loneTable, stations]) (fun n m hm => ?_)
    rfl .loneFormation (by simp) h.recount
  have hentry := member?_of_map (x := s.loneTable) (f := fun n =>
    if n = s.own then .member (newMember s.now s.weight s.grant.demand 0) else .absent) rfl hm
  split at hentry
  · obtain rfl := Entry.member.inj hentry
    exact (h.weight hs).1
  · cases hentry

theorem settleCommon_sound (hs : s.loaded) : s.settleCommon.sound := by
  refine raise_sound (withStation_sound ?_ ?_ ?_) _
  · exact withRecount_sound h hs h.recount
  · rfl
  · exact .inl hs

theorem replaceCloseBeacon_sound : s.replaceCloseBeacon.sound := by
  unfold State.replaceCloseBeacon
  split
  · exact h
  · split
    · refine updateSlot_sound h _ fun sl hsl => ⟨trivial, fun p hp => ?_⟩
      obtain ⟨o, -, rfl⟩ := Option.map_eq_some_iff.1 hp
      trivial
    · exact enqueue_sound (freeSlot_sound h _) trivial

theorem actOnSilence_sound : s.actOnSilence.sound := by
  unfold State.actOnSilence
  split
  · exact requestIsolated_sound h
  · exact giveCause_sound h _

theorem markSilentAtSettle_sound : s.markSilentAtSettle.sound := by
  unfold State.markSilentAtSettle
  split
  · refine actOnSilence_sound (withTable_sound h (mapMembers_sameShares h.table.length_eq fun n m => ?_) rfl rfl)
    split <;> rfl
  · exact h

theorem settle_sound (hs : s.loaded) : s.settle.sound :=
  markSilentAtSettle_sound (replaceCloseBeacon_sound (settleCommon_sound h hs))

/-! ### Standing conditions -/

omit h in
/-- What the look at the standing conditions asks for is no REPORT. -/
theorem wants_weighs {p : Payload} (hp : s.wants p) : p.weighs := by
  refine weighs_of_kind ?_
  rcases hp with hp | hp | hp | ⟨-, n, -, rfl⟩ | ⟨-, rfl⟩
  · simp [hp]
  · simp [hp]
  · simp [hp]
  · simp [Payload.kind]
  · simp [Payload.kind]

theorem lookAfter_sound (b : State) (freed : Bool) : (s.lookAfter b freed).sound := by
  have hclosed : LookClosed State.sound :=
    ⟨fun u p hu hp => enqueue_sound hu (wants_weighs hp), fun u k _ hu => withdrawWaiting_sound hu k,
      fun u hu => hu.of_queue hu.queue (by simp)⟩
  exact lookAfter_induction hclosed h b freed

end

end Sys2Proof.Machine
end

section
/-! What the line, the start of the part and the Table Unit keep of the invariants. -/

namespace Sys2Proof.Machine

/-! ### Received frames (R124, R130) -/

theorem parseBody_weighs {code : Byte} {l : List Byte} {b : Body} (h : parseBody code l = some b) : b.weighs := by
  cases b with
  | report target weight d g digest =>
    unfold parseBody at h
    split at h
    case h_5 a b w c d' e f g' h' =>
      split at h
      · rename_i hcond
        obtain ⟨-, hlt, hne⟩ := hcond
        simp only [Option.some.injEq, Body.report.injEq] at h
        obtain ⟨-, hweight, -⟩ := h
        intro hzero
        refine hne (BitVec.eq_of_toNat_eq ?_)
        rw [← hweight] at hzero
        have hnat := congrArg BitVec.toNat hzero
        rw [BitVec.toNat_setWidth, Nat.mod_eq_of_lt (by omega)] at hnat
        simpa using hnat
      · cases h
    all_goals (repeat' split at h) <;> simp_all
  | _ => trivial

theorem parseContent_weighs {l : List Byte} {f : Frame} (h : parseContent l = some f) : f.body.weighs := by
  unfold parseContent at h
  split at h
  · split at h
    · split at h
      · rename_i body hb
        obtain rfl := Option.some.inj h
        exact parseBody_weighs hb
      · cases h
    · cases h
  · cases h

/-- A frame that passes the receive checks states a weight of at least 1, if it states one (R130). -/
theorem receiveCheck_weighs {cells : List Cell} {f : Frame} (h : receiveCheck cells = some f) : f.body.weighs := by
  unfold receiveCheck at h
  split at h
  · cases h
  · split at h
    · split at h
      · cases h
      · unfold parseBytes at h
        split at h
        · exact parseContent_weighs h
        · cases h
    · cases h

section
variable {s t : State} (h : s.sound)
include h

/-! ### Arrival (R131, R132, R156 to R165) -/

theorem watch_sound (f : Frame) (own : Bool) : (s.watch f own).sound := by
  unfold State.watch
  split
  · exact requestBarred_sound h
  · exact h

theorem store_sound {f : Frame} (hf : f.body.weighs) (own : Bool) : (s.store f own).sound := by
  refine lookFlow_sound (h.of_frames (fun e he => ?_) h.line h.queue (by simp))
  rcases List.mem_append.1 he with he | he
  · exact h.ring e he
  · obtain rfl := List.mem_singleton.1 he
    exact hf

theorem drop_sound (f : Frame) (own : Bool) : (s.drop f own).sound := by
  have hcounted : ((s.withRing { s.ring with lost := true }).raise .ringOverflow).countRingOverflow.sound :=
    h.of_queue h.queue (by simp)
  have hback : (((s.withRing { s.ring with lost := true }).raise
      .ringOverflow).countRingOverflow.droppedRecount f own).sound := by
    unfold State.droppedRecount
    split
    · exact recountBack_sound hcounted
    · exact hcounted
  unfold State.drop State.lostCause
  dsimp only
  split
  · exact giveCause_sound hback _
  · exact hback

theorem offer_sound {f : Frame} (hf : f.body.weighs) (own : Bool) : (s.offer f own).sound := by
  unfold State.offer
  split
  · exact h
  · split
    · exact watch_sound (store_sound h hf own) f own
    · exact drop_sound h f own

theorem handOn_sound {f : Frame} (hf : f.body.weighs) (own : Bool) : (s.handOn f own).sound := by
  unfold State.handOn
  split
  · split
    · exact h
    · refine watch_sound ?_ f own
      exact h.of_queue h.queue (by simp [State.honourSlow])
  · exact offer_sound h hf own

theorem reject_sound : s.reject.sound := by
  refine setSuspect_sound ?_
  exact h.of_queue h.queue (by simp)

/-! ### The line and the own frames (R126, R137 to R153) -/

theorem withLine_sound {x : Line} (hx : x.tx.weighs) : (s.withLine x).sound :=
  h.of_frames h.ring hx h.queue (by simp)

theorem lineBecomes_sound (x : LineState) {tx : Tx} (htx : tx.weighs) : (s.lineBecomes x tx).sound :=
  h.of_frames h.ring htx h.queue (by simp)

omit h in
theorem weighs_of_not_sending {tx : Tx} (htx : ∀ f, tx ≠ .sending f) : tx.weighs := fun f hf => absurd hf (htx f)

theorem stopCounting_sound : (s.withQueue (stopCounting s.queue)).sound :=
  h.of_queue (h.queue.map fun _ hsl => hsl) (by simp)

theorem beginActivity_sound : s.beginActivity.sound :=
  lineBecomes_sound (stopCounting_sound h) _ (weighs_of_not_sending (by simp))

theorem ensureActivity_sound : s.ensureActivity.sound := by
  unfold State.ensureActivity
  split
  · exact beginActivity_sound h
  · exact h

theorem activityEnds_sound (n : Nat) : (s.activityEnds n).sound :=
  lineBecomes_sound (reach_sound (ensureActivity_sound h) _) _ (weighs_of_not_sending (by simp))

theorem freeOnLine_sound {sl : Slot} (hsl : sl.weighs) : (s.freeOnLine sl).sound := by
  have hfreed := freeSlot_sound h sl.kind
  unfold State.freeOnLine
  dsimp only
  split
  · exact hfreed
  · exact hfreed.of_queue (hfreed.queue.append_fresh _ (hsl.2 _ ‹_›)) (by simp)

theorem startSlot_sound {sl : Slot} (hsl : sl.weighs) : (s.startSlot sl).sound := by
  refine lineBecomes_sound ?_ _ fun f hf => ?_
  · have hstarted : queueWeighs (updateSlot sl.kind Slot.started s.queue) :=
      h.queue.updateSlot _ (f := Slot.started) fun _ ho => ho
    exact h.of_queue (hstarted.map (f := fun o => { o with counted := 0 }) fun _ ho => ho) (by simp)
  · obtain rfl := Tx.sending.inj hf
    exact formFrame_weighs s hsl.1

omit h in
theorem mem_of_firstSlot {q : List Slot} {sl : Slot} (hq : firstSlot q = some sl) : sl ∈ q := by
  induction q with
  | nil => cases hq
  | cons a q ih =>
    unfold firstSlot at hq
    split at hq
    · obtain rfl := Option.some.inj hq
      exact List.mem_cons_self ..
    · rename_i o ho
      split at hq <;> obtain rfl := Option.some.inj hq
      · exact List.mem_cons_of_mem _ (ih ho)
      · exact List.mem_cons_self ..

theorem startAt_sound (x : Time) : (s.startAt x).sound := by
  unfold State.startAt
  split
  · exact h
  · rename_i sl hsl
    have hm : sl ∈ s.queue := (List.mem_filter.1 (List.mem_filter.1 (mem_of_firstSlot hsl)).1).1
    exact startSlot_sound (reach_sound h x) (h.queue sl hm)

theorem backOff_sound (sl : Slot) : (s.backOff sl).sound := by
  refine withLine_sound ?_ ?_
  · exact updateSlot_sound h _ fun o ho => ⟨latest_weighs ho, fun p hp => by cases hp⟩
  · exact h.line

theorem recountAbandoned_sound (sl : Slot) : (s.recountAbandoned sl).sound := by
  have hcleared := requestedCleared_sound h
  unfold State.recountAbandoned
  split
  · exact h
  · split
    · exact requestRecount_sound hcleared (loaded_of_takesPart ‹s.takesPart›) _
    · exact hcleared

theorem countAbandonment_sound : s.countAbandonment.sound := by
  unfold State.countAbandonment
  split
  · split
    · exact withStation_sound h rfl (.inl (loaded_of_takesPart ‹_›))
    · exact requestIsolated_sound h
  · exact h

theorem abandon_sound (sl : Slot) : (s.abandon sl).sound := by
  refine countAbandonment_sound (recountAbandoned_sound ?_ sl)
  exact (raise_sound (freeSlot_sound h sl.kind) .abandoned).of_queue (h.queue.filter _) (by simp)

theorem jamOutcome_sound {sl : Slot} (hsl : sl.weighs) : (s.jamOutcome sl).sound := by
  unfold State.jamOutcome
  split
  · exact freeOnLine_sound h hsl
  · split
    · exact freeSlot_sound h _
    · split
      · exact abandon_sound h sl
      · exact backOff_sound h sl

theorem countCollision_sound : s.countCollision.sound := h.of_queue h.queue (by simp)

theorem onLineSlot_weighs {sl : Slot} (hsl : onLineSlot s.queue = some sl) : sl.weighs :=
  h.queue sl (List.mem_of_find?_eq_some hsl)

theorem reportJam_sound : s.reportJam.sound := by
  unfold State.reportJam
  split
  · exact countCollision_sound h
  · exact jamOutcome_sound (countCollision_sound h) (onLineSlot_weighs h ‹_›)

theorem leaveCompleted_sound : s.leaveCompleted.sound := by
  unfold State.leaveCompleted
  split
  · rename_i hcond
    exact enter_sound h (by simp [State.loaded, hcond.1]) (by simp)
  · exact h

theorem slowCompleted_sound : s.slowCompleted.sound := by
  unfold State.slowCompleted
  split
  · exact h.of_queue h.queue (by simp)
  · exact h

theorem reportCompletion_sound (sl : Slot) : (s.reportCompletion sl).sound := by
  have hbeacon : (if s.takesPart then s.beaconRestarted else s).sound := by
    split
    · exact withStation_sound h rfl (.inl (loaded_of_takesPart ‹_›))
    · exact h
  unfold State.reportCompletion
  split
  · exact h
  · dsimp only
    split
    · exact slowCompleted_sound hbeacon
    · exact leaveCompleted_sound hbeacon
    · exact hbeacon

theorem complete_sound {f : Frame} (hf : f.body.weighs) : (s.complete f).sound := by
  have hidle : (s.lineBecomes .idle .none).sound := lineBecomes_sound h _ (weighs_of_not_sending (by simp))
  unfold State.complete
  dsimp only
  split
  · exact lookAfter_sound (handOn_sound hidle hf true) _ _
  · rename_i sl hsl
    have hfreed := freeOnLine_sound hidle (onLineSlot_weighs hidle hsl)
    exact lookAfter_sound (handOn_sound (reportCompletion_sound hfreed sl) hf true) _ _

/-! ### The start of the part (R191 to R198) -/

/-- The record may be another one in LOADING and FAULT alone, where the table is empty. -/
theorem withLoader_sound {x : Loader} (hx : ¬ s.loaded ∨ x.record = s.loader.record) : (s.withLoader x).sound := by
  by_cases hs : s.loaded
  · have hrecord := hx.resolve_left (not_not_intro hs)
    have hbudget : (s.withLoader x).budget = s.budget := by
      simp [State.budget, State.config, hrecord]
    have hweight : (s.withLoader x).weight = s.weight := by
      simp [State.weight, State.config, hrecord]
    exact ⟨h.table.of_sameShares rfl rfl rfl rfl hbudget, h.unloaded, h.ring, h.line, h.queue, h.recount,
      fun hl => by rw [hweight]; exact h.weight hl⟩
  · obtain ⟨hrun, hempty, -⟩ := h.unloaded hs
    exact ⟨tableInv_of_empty h.table.length_eq hempty hrun (h.table.idle hrun).1, h.unloaded, h.ring, h.line,
      h.queue, h.recount, fun hl => absurd hl hs⟩

theorem enterFault_sound (hs : ¬ s.loaded) : s.enterFault.sound := by
  refine raise_sound ?_ _
  exact ⟨h.table.of_same rfl rfl rfl, fun _ => h.unloaded hs, h.ring, h.line, h.queue, h.recount,
    fun hl => absurd rfl hl.2⟩

theorem attemptFails_sound (hs : ¬ s.loaded) : s.attemptFails.sound := by
  unfold State.attemptFails
  split
  · exact withLoader_sound h (.inr rfl)
  · refine enterFault_sound ?_ hs
    exact withLoader_sound h (.inr rfl)

theorem leaveLoading_sound (hw : 1 ≤ s.weight ∧ s.weight ≤ 15) : s.leaveLoading.sound :=
  withLine_sound (enterListen_sound_of h hw) h.line

theorem judgeRecord_sound (hs : ¬ s.loaded) (r : ConfigRecord) : (s.judgeRecord r).sound := by
  have hheld : (s.holdRecord r).sound := withLoader_sound h (.inl hs)
  unfold State.judgeRecord
  split
  · rename_i hvalid
    obtain ⟨-, -, -, -, -, -, -, -, hlow, hhigh, -⟩ := hvalid
    refine leaveLoading_sound (withLoader_sound hheld (.inl hs)) ?_
    exact ⟨hlow, hhigh⟩
  · exact enterFault_sound hheld hs

omit h in
/-- The blocks at their POWER reset values (R191, R197). -/
theorem sound_of_reset (htable : t.table = Table.reset) (hengine : t.engine = Engine.reset)
    (hring : t.ring = Ring.reset) (hline : t.line.tx = .none) (hqueue : t.queue = [])
    (hrecount : t.recount = Recount.reset) (hstation : t.station = Station.reset) : t.sound := by
  have hempty : ∀ n, t.table.entryAt n = .absent := by
    rw [htable]
    decide
  refine ⟨tableInv_of_empty (by rw [htable]; rfl) hempty (by rw [hengine]; rfl) (by rw [htable]; rfl), fun _ => ?_,
    ?_, weighs_of_not_sending (by simp [hline]), ?_, ?_, fun hl => absurd (by rw [hstation]; rfl) hl.1⟩
  · simp [hengine, hempty, hrecount, hstation, Engine.reset, Station.reset]
  · simp [Ring.weighs, hring, Ring.reset]
  · simp [queueWeighs, hqueue]
  · simp [Recount.weighs, hrecount, Recount.reset]

theorem restarted_sound (hs : s.loaded) : s.restarted.sound := by
  refine leaveLoading_sound (sound_of_reset rfl rfl rfl rfl rfl rfl rfl) ?_
  exact h.weight hs

/-! ### The Table Unit (R11 to R24) -/

omit h in
theorem updateMember_length (x : Table) (n : StationNo) (f : Member → Member) :
    (x.updateMember n f).entries.length = x.entries.length := by
  unfold Table.updateMember
  split
  · simp [Table.setEntry]
  · rfl

omit h in
/-- What holds of every member and is kept by a change holds of every member after it. -/
theorem updateMember_forall {x : Table} {P : Member → Prop} (hx : ∀ k m, x.member? k = some m → P m)
    {f : Member → Member} (hf : ∀ m, P m → P (f m)) (n : StationNo) :
    ∀ k m, (x.updateMember n f).member? k = some m → P m := by
  intro k m hm
  by_cases hk : k = n
  · subst hk
    cases ho : x.member? k with
    | none =>
      rw [updateMember_of_no_member ho] at hm
      exact hx k m hm
    | some o =>
      rw [updateMember_member? ho] at hm
      obtain rfl := Option.some.inj hm
      exact hf o (hx k o ho)
  · refine hx k m ?_
    rw [member?_eq_some] at hm ⊢
    rwa [updateMember_entryAt_of_ne x hk] at hm

theorem nextTsn_sound : s.nextTsn.sound := withTable_sound h rfl rfl rfl

theorem updateMember_sound {n : StationNo} {f : Member → Member}
    (hf : ∀ m, (Entry.member (f m)).shares = (Entry.member m).shares) :
    (s.withTable (s.table.updateMember n f)).sound :=
  withTable_sound h (updateMember_sameShares hf) (by simp) (by simp)

theorem applyDemand_sound (hs : s.loaded) (n : StationNo) (v : Nat) : (s.applyDemand n v).sound := by
  refine startRun_sound h hs ?_ ?_ rfl _ ?_ h.recount
  · exact (updateMember_length _ _ _).trans h.table.length_eq
  · exact updateMember_forall (P := fun m => 1 ≤ m.weight) h.table.weights
      (f := fun m => { m with demand := v, grant := min m.grant v }) (fun _ hm => hm) n
  · simp

theorem applyClaim_sound (n : StationNo) (a : Nat) : (s.applyClaim n a).sound := by
  have hcommitted : (s.claimCommitted n (s.increment n a)).sound := by
    refine recomputeStarved_sound (nextTsn_sound ?_)
    exact updateMember_sound h fun _ => rfl
  rw [applyClaim_eq]
  split
  · exact ownClaimNotices_sound hcommitted _ _
  · exact giveNotices_sound hcommitted _

theorem applyRelease_sound (n : StationNo) (v : Nat) : (s.applyRelease n v).sound := by
  refine giveNotices_sound (recomputeStarved_sound (nextTsn_sound ?_)) _
  exact updateMember_sound h fun _ => rfl

theorem applyClear_sound (hs : s.loaded) (n : StationNo) : (s.applyClear n).sound := by
  unfold State.applyClear
  split
  · refine startRun_sound h hs ?_ (fun k m hm => ?_) rfl _ ?_ h.recount
    · simpa [Table.setEntry, State.withdrawClear, State.nextTsn] using h.table.length_eq
    · have hentry : (s.table.setEntry n .absent).entryAt k = .member m := member?_eq_some.1 hm
      rw [setEntry_entryAt] at hentry
      split at hentry
      · cases hentry
      · exact h.table.weights k m (member?_eq_some.2 hentry)
    · simp [State.withdrawClear]
  · exact giveNotices_sound (recomputeStarved_sound (nextTsn_sound h)) _

theorem mismatch_sound : s.mismatch.sound := by
  refine giveCause_sound ?_ _
  exact (setDiverged_sound h).of_queue (setDiverged_sound h).queue (by simp)

theorem clearSuspect_sound (n : StationNo) : (s.clearSuspect n).sound := by
  unfold State.clearSuspect
  split
  · exact h
  · exact withTable_sound h rfl rfl rfl

theorem compareEntry_sound (n : StationNo) (g d : Half) : (s.compareEntry n g d).sound := by
  unfold State.compareEntry
  split
  · exact h
  · split
    · exact h
    · exact mismatch_sound h

theorem compareRoster_sound (hs : s.loaded) (n : StationNo) (roster : BitVec 32) :
    (s.compareRoster n roster).sound := by
  have hconfirmed : (s.withTable (s.table.updateMember n fun m => { m with confirmed := true })).sound :=
    updateMember_sound h fun _ => rfl
  unfold State.compareRoster
  split
  · dsimp only
    split
    · exact settle_sound hconfirmed hs
    · exact hconfirmed
  · exact giveCause_sound h _

theorem passed_sound (hs : s.loaded) (n : StationNo) (b : Body) : (s.passed n b).sound := by
  unfold State.passed
  split
  · exact applyDemand_sound h hs _ _
  · exact applyClaim_sound h _ _
  · exact applyRelease_sound h _ _
  · exact applyClear_sound h hs _
  · split
    · exact compareRoster_sound h hs _ _
    · exact compareEntry_sound h _ _ _
  · exact h

theorem compare_sound (hs : s.loaded) (f : Frame) : (s.compare f).sound := by
  unfold State.compare
  split
  · split
    · exact passed_sound (clearSuspect_sound h _) (by simpa [State.loaded] using hs) _ _
    · exact mismatch_sound h
  · split
    · exact giveCause_sound h _
    · exact countStale_sound h

theorem judgeReport_sound (n : StationNo) (target : Half) : (s.judgeReport n target).sound := by
  rw [judgeReport_eq]
  cases s.reportCause n target with
  | none => exact countStale_sound h
  | some c => exact giveCause_sound h c

theorem strangeBeacon_sound (epoch : Half) : (s.strangeBeacon epoch).sound := by
  rw [strangeBeacon_eq]
  exact giveCause_sound h _

theorem judge_sound (hs : s.loaded) (f : Frame) : (s.judge f).sound := by
  have hknown : ∀ u : State, u.sound → (if s.table.isMember f.sender = true then s.compare f else u).sound := by
    intro u hu
    split
    · exact compare_sound h hs f
    · exact hu
  unfold State.judge
  cases f.body with
  | report target => exact judgeReport_sound h _ target
  | slow => exact h
  | recount => exact h
  | beacon => exact hknown _ (strangeBeacon_sound h _)
  | _ => exact hknown _ (countStale_sound h)

theorem judgeInWindow_sound (hs : s.loaded) {f : Frame} (hf : f.body.weighs) : (s.judgeInWindow f).sound := by
  unfold State.judgeInWindow
  cases hb : f.body with
  | report target weight d g digest =>
    rw [hb] at hf
    refine windowReport_sound h hs ?_ target
    have hne : weight.toNat ≠ 0 := fun hzero => hf (BitVec.eq_of_toNat_eq (by simpa using hzero))
    exact Nat.one_le_iff_ne_zero.2 hne
  | slow => exact h
  | recount => exact h
  | _ => exact countStale_sound h

theorem dispose_sound (hs : s.loaded) {f : Frame} (hf : f.body.weighs) (own : Bool) : (s.dispose f own).sound := by
  unfold State.dispose
  split
  · exact takeRecount_sound h hs _ _
  · split
    · exact judgeInWindow_sound h hs hf
    · split
      · exact judge_sound h hs f
      · exact h

theorem noteEpochs_sound (hs : s.loaded) (f : Frame) : (s.noteEpochs f).sound := by
  unfold State.noteEpochs
  split
  · exact giveEpoch_sound h hs _
  · exact giveEpoch_sound (giveEpoch_sound h hs _) hs _

theorem noteSender_sound (hs : s.loaded) (n : StationNo) : (s.noteSender n).sound := by
  unfold State.noteSender
  split
  · exact updateMember_sound h fun _ => rfl
  · split
    · exact h
    · exact withRecount_sound h hs h.recount

theorem noteHeard_sound (n : StationNo) : (s.noteHeard n).sound := by
  unfold State.noteHeard
  split
  · rename_i hcond
    exact withStation_sound h rfl (.inl (by simp [State.loaded, hcond.1]))
  · exact h

omit h in
theorem noteHeard_state (n : StationNo) : (s.noteHeard n).station.state = s.station.state := by
  unfold State.noteHeard
  split <;> rfl

theorem process_sound {f : Frame} (hf : f.body.weighs) (own : Bool) : (s.process f own).sound := by
  unfold State.process
  split
  · exact h
  · rename_i hpart
    have hs : s.loaded := loaded_of_takesPart (not_not.1 hpart)
    split
    · exact requestBarred_sound h
    · split
      · exact requestBarred_sound h
      · have hepochs := noteEpochs_sound h hs f
        have hsender := noteSender_sound hepochs (by simpa [State.loaded] using hs) f.sender
        refine dispose_sound (noteHeard_sound hsender f.sender) ?_ hf own
        simpa [State.loaded, noteHeard_state] using hs

/-! ### The completion of a run, the close, the end of listening (R40, R41, R83 to R86, R103, R104) -/

theorem completeRun_sound {r : Run} (hr : s.engine.run = some r) : (s.completeRun r).sound := by
  have hs := h.loaded_of_run hr
  exact h.of_loaded hs hs (by simp) (completeRun_tableInv h.table hr) h.ring h.line h.queue h.recount

theorem standingLost_sound : s.standingLost.sound := by
  unfold State.standingLost
  split
  · exact giveCause_sound h _
  · exact h

theorem closeEnd_sound (hs : s.loaded) : s.closeEnd.sound := by
  have hmember : (if s.station.state = .listen then s.enterMember else s).sound ∧
      (if s.station.state = .listen then s.enterMember else s).loaded := by
    split
    · exact ⟨enterMember_sound h hs, by simp [State.loaded]⟩
    · exact ⟨h, hs⟩
  unfold State.closeEnd
  generalize (if s.station.state = .listen then s.enterMember else s) = u at hmember
  obtain ⟨hu, hul⟩ := hmember
  have hcheck := withRecount_sound hu hul (x := { u.recount with
    phase := .check, target := none, checkTimer := some (u.after u.tCheck) }) (by exact hu.recount)
  have hbeacon := giveNotices_sound (enqueue_sound (standingLost_sound hcheck) (p := .beacon true) (by trivial)) true
  dsimp only
  split
  · exact settle_sound hbeacon (by simpa [State.loaded] using hul)
  · exact hbeacon

theorem loneEnd_sound (hs : s.loaded) : s.loneEnd.sound := by
  refine giveNotices_sound (enqueue_sound (settleCommon_sound (enterMember_sound h hs) ?_) (by trivial)) true
  simp [State.loaded]

theorem runEnds_sound (hs : s.loaded) (work : RunWork) : (s.runEnds work).sound := by
  unfold State.runEnds
  split
  · exact giveNotices_sound h _
  · exact giveNotices_sound h _
  · exact closeEnd_sound h hs
  · exact loneEnd_sound h hs

theorem beginClose_sound (hs : s.loaded) : s.beginClose.sound := by
  have hwaiting := withRecount_sound h hs (x := { s.recount with closeWaiting := false, windowTimer := none })
    (by exact h.recount)
  unfold State.beginClose
  dsimp only
  split
  · exact rebuild_sound hwaiting hs
  · exact requestIsolated_sound hwaiting

theorem decideListening_sound (hs : s.loaded) : s.decideListening.sound := by
  have hstation : (s.withStation { s.station with listenWaiting := false }).sound :=
    withStation_sound h rfl (.inl hs)
  unfold State.decideListening
  dsimp only
  split
  · exact giveCause_sound hstation _
  · exact formAlone_sound hstation hs

end

end Sys2Proof.Machine
end

section
/-! Every step keeps the invariants shareInv and weightInv: one lemma a command, and the step. -/

namespace Sys2Proof.Machine

/-- The invariants hold of the state that follows, if one does. -/
def soundAfter (o : Host.Outcome State Fault Refusal) : Prop := ∀ t, o = .next t → t.sound

theorem soundAfter_next {t : State} (h : t.sound) : soundAfter (.next t) := by
  intro u hu
  obtain rfl := Host.Outcome.next.inj hu
  exact h

section
variable {s t : State} (h : s.sound)
include h

theorem outOfReset_sound (ht : t.sound) : soundAfter (.next (s.outOfReset t)) := by
  refine soundAfter_next ?_
  unfold State.outOfReset
  split
  · exact h
  · exact ht

theorem taken_sound (ht : t.sound) : soundAfter (.next (s.taken t)) := by
  refine soundAfter_next ?_
  unfold State.taken
  split
  · exact ht
  · exact h

/-! ### The start of the part -/

omit h in
theorem powerReset_soundAfter : soundAfter (exec .powerReset s) :=
  soundAfter_next (sound_of_reset rfl rfl rfl rfl rfl rfl rfl)

theorem withPort_sound (x : Port) : (s.withPort x).sound := h.of_queue h.queue (by simp)

theorem resetRelease_soundAfter (straps : BitVec 5) : soundAfter (exec (.resetRelease straps) s) := by
  refine soundAfter_next ?_
  split
  · have hraised : ({ s with resetLow := false } : State).sound := h.of_queue h.queue (by simp)
    refine withPort_sound ?_ _
    exact withLoader_sound hraised (.inr rfl)
  · exact h

omit h in
theorem not_loaded_of_reads (hr : s.reads) : ¬ s.loaded := fun hl => hl.1 hr.1

theorem readAttemptComplete_soundAfter (bytes : ConfigRecord) :
    soundAfter (exec (.readAttemptComplete bytes) s) := by
  refine outOfReset_sound h ?_
  split
  · exact judgeRecord_sound h (not_loaded_of_reads ‹_›) bytes
  · exact h

theorem readFails_soundAfter : soundAfter (exec .readAttemptFailed s) ∧ soundAfter (exec .sclHoldTimeout s) := by
  have hfails : (if s.reads then s.attemptFails else s).sound := by
    split
    · exact attemptFails_sound h (not_loaded_of_reads ‹_›)
    · exact h
  exact ⟨outOfReset_sound h hfails, outOfReset_sound h hfails⟩

theorem readRetryWaitExpiry_soundAfter : soundAfter (exec .readRetryWaitExpiry s) := by
  refine outOfReset_sound h ?_
  split
  · refine withLoader_sound (reach_sound h _) (.inr ?_)
    simp
  · exact h

theorem lineStartupSettled_soundAfter : soundAfter (exec .lineStartupSettled s) := by
  refine outOfReset_sound h ?_
  split
  · exact lineBecomes_sound (reach_sound h _) _ (weighs_of_not_sending (by simp))
  · exact h

/-! ### The Local Port -/

theorem transactions_soundAfter :
    soundAfter (exec .transactionBegin s) ∧ soundAfter (exec .transactionEnd s) := by
  have hcsn : ∀ x, ({ s with csnHigh := x } : State).sound := fun x => h.of_queue h.queue (by simp)
  refine ⟨soundAfter_next ?_, soundAfter_next ?_⟩
  · split
    · unfold State.sclkFirstFall
      split
      · exact withPort_sound (withPort_sound (hcsn _) _) _
      · exact withPort_sound (hcsn _) _
    · exact hcsn _
  · split
    · exact hcsn _
    · exact withPort_sound (hcsn _) _

theorem lastDataByteSent_soundAfter : soundAfter (exec .lastDataByteSent s) := by
  refine soundAfter_next ?_
  split
  · exact withPort_sound h _
  · exact h

theorem unknownRequest_soundAfter (code : Byte) : soundAfter (exec (.unknownRequest code) s) := by
  refine soundAfter_next ?_
  unfold State.taken
  (repeat' split)
  · exact h
  · exact answer_sound h _ _ _
  · exact h

theorem demandSet_sound (v : Nat) : (s.demandSet v).sound := by
  unfold State.demandSet
  dsimp only
  split
  · exact lookAfter_sound (lowerApplied_sound (withGrant_sound h _) v) _ _
  · exact lookAfter_sound (withGrant_sound h _) _ _

theorem setDemand_soundAfter (v : Half) : soundAfter (exec (.setDemand v) s) := by
  refine taken_sound h ?_
  (repeat' split)
  · exact answer_sound h _ _ _
  · exact answer_sound h _ _ _
  · exact answer_sound (demandSet_sound h _) _ _ _

theorem confirm_soundAfter (v : Half) : soundAfter (exec (.confirm v) s) := by
  refine taken_sound h ?_
  (repeat' split)
  · exact answer_sound h _ _ _
  · exact answer_sound (lookAfter_sound (lowerApplied_sound h _) _ _) _ _ _
  · exact answer_sound h _ _ _

theorem clearCutoff_soundAfter : soundAfter (exec .clearCutoff s) := by
  refine taken_sound h ?_
  (repeat' split)
  · exact answer_sound h _ _ _
  · exact answer_sound (lookAfter_sound (withGrant_sound h _) _ _) _ _ _
  · exact answer_sound h _ _ _

theorem takeSnapshot_soundAfter : soundAfter (exec .takeSnapshot s) := by
  refine taken_sound h ?_
  (repeat' split)
  · exact answer_sound h _ _ _
  · exact answer_sound h _ _ _
  · exact answer_sound (takeSnapshotNow_sound h) _ _ _
  · refine answer_sound ?_ _ _ _
    exact withTable_sound h rfl rfl rfl

theorem status_soundAfter : soundAfter (exec .status s) := taken_sound h (answer_sound h _ _ _)

theorem readSummary_soundAfter : soundAfter (exec .readSummary s) := by
  refine taken_sound h ?_
  split <;> exact answer_sound h _ _ _

theorem readEntry_soundAfter (n : Byte) : soundAfter (exec (.readEntry n) s) := by
  refine taken_sound h ?_
  split
  · exact answer_sound h _ _ _
  · split <;> exact answer_sound h _ _ _

theorem readEvents_soundAfter : soundAfter (exec .readEvents s) := taken_sound h (answer_sound h _ _ _)

theorem readCounters_soundAfter : soundAfter (exec .readCounters s) := taken_sound h (answer_sound h _ _ _)

theorem readConfig_soundAfter : soundAfter (exec .readConfig s) := by
  refine taken_sound h ?_
  split <;> exact answer_sound h _ _ _

theorem withEvents_sound (x : EventUnit) : (s.withEvents x).sound := h.of_queue h.queue (by simp)

theorem clearEvents_soundAfter (mask : Half) : soundAfter (exec (.clearEvents mask) s) := by
  refine taken_sound h ?_
  split
  · exact answer_sound h _ _ _
  · exact answer_sound (withEvents_sound h _) _ _ _

theorem setMask_soundAfter (mask : Half) : soundAfter (exec (.setMask mask) s) := by
  refine taken_sound h ?_
  split
  · exact answer_sound h _ _ _
  · exact answer_sound (withEvents_sound h _) _ _ _

theorem clearCounters_soundAfter : soundAfter (exec .clearCounters s) :=
  taken_sound h (answer_sound (withEvents_sound h _) _ _ _)

theorem leave_soundAfter : soundAfter (exec .leave s) := by
  refine taken_sound h ?_
  split
  · exact answer_sound h _ _ _
  · rename_i hstate
    have hs : s.loaded := by simp [State.loaded, not_not.1 hstate]
    (repeat' split)
    · exact answer_sound h _ _ _
    · exact answer_sound (lookAfter_sound (requestRecount_sound h hs _) _ _) _ _ _
    · exact answer_sound h _ _ _

theorem join_soundAfter : soundAfter (exec .join s) := by
  refine taken_sound h ?_
  split
  · rename_i hstate
    exact answer_sound (enterListen_sound_of h (h.weight (by simp [State.loaded, hstate]))) _ _ _
  · exact answer_sound h _ _ _

theorem restart_soundAfter : soundAfter (exec .restart s) := by
  refine taken_sound h ?_
  split
  · rename_i hcond
    exact answer_sound (restarted_sound h hcond.1) _ _ _
  · exact answer_sound h _ _ _

/-! ### The share line -/

theorem lineActivityStart_soundAfter : soundAfter (exec .lineActivityStart s) := by
  refine outOfReset_sound h ?_
  (repeat' split)
  · exact beginActivity_sound h
  · exact withLine_sound h h.line
  · exact h

theorem frameReceived_soundAfter (cells : List Cell) : soundAfter (exec (.frameReceived cells) s) := by
  refine outOfReset_sound h ?_
  have hends := activityEnds_sound h cells.length
  split
  · split
    · exact lookAfter_sound (reject_sound hends) _ _
    · rename_i f hf
      exact lookAfter_sound (handOn_sound hends (receiveCheck_weighs hf) false) _ _
  · exact h

theorem slotStart_soundAfter : soundAfter (exec .slotStart s) := by
  refine outOfReset_sound h ?_
  (repeat' split)
  · exact h
  · exact startAt_sound h _
  · exact h

omit h in
theorem waited_weighs {sl : Slot} (hsl : sl.weighs) : sl.waited.weighs := by
  unfold Slot.waited
  split <;> exact hsl

theorem backoffSlotExpiry_soundAfter (k : Kind) : soundAfter (exec (.backoffSlotExpiry k) s) := by
  refine outOfReset_sound h ?_
  (repeat' split)
  · exact h
  · exact h.of_queue (h.queue.updateSlot k fun _ hsl => waited_weighs hsl) (by simp)
  · exact h

theorem readBackMismatch_soundAfter : soundAfter (exec .readBackMismatch s) := by
  refine outOfReset_sound h ?_
  split
  · exact withLine_sound h (weighs_of_not_sending (by simp))
  · exact h

theorem lineStateJam_soundAfter : soundAfter (exec .lineStateJam s) := by
  refine outOfReset_sound h ?_
  split
  · exact lineBecomes_sound (reach_sound (ensureActivity_sound h) _) _ (weighs_of_not_sending (by simp))
  · split
    · exact lineBecomes_sound (reach_sound h _) _ (weighs_of_not_sending (by simp))
    · exact lineBecomes_sound h _ (weighs_of_not_sending (by simp))
    · exact h

theorem jamDriveEnd_soundAfter : soundAfter (exec .jamDriveEnd s) := by
  refine outOfReset_sound h ?_
  split
  · exact withLine_sound (reach_sound h _) (weighs_of_not_sending (by simp))
  · exact h

theorem endOfJam_soundAfter : soundAfter (exec .endOfJam s) := by
  refine outOfReset_sound h ?_
  have hidle : (s.lineBecomes .idle .none).sound := lineBecomes_sound h _ (weighs_of_not_sending (by simp))
  split
  · split
    · exact lookAfter_sound (reportJam_sound hidle) _ _
    · exact hidle
    · exact h
  · exact h

theorem ownFrameCompletion_soundAfter : soundAfter (exec .ownFrameCompletion s) := by
  refine outOfReset_sound h ?_
  split
  · exact complete_sound (reach_sound h _) (h.line _ ‹_›)
  · exact h

/-! ### The Table Unit -/

theorem takeFrame_soundAfter : soundAfter (exec .takeFrame s) := by
  refine outOfReset_sound h ?_
  split
  · split
    · exact h
    · rename_i e rest hring
      have htaken : (s.withRing { s.ring with entries := rest }).sound :=
        h.of_frames (fun x hx => h.ring x (hring ▸ List.mem_cons_of_mem e hx)) h.line h.queue (by simp)
      exact lookAfter_sound (process_sound htaken (h.ring e (hring ▸ List.mem_cons_self ..)) _) _ _
  · exact h

theorem engineRunComplete_soundAfter : soundAfter (exec .engineRunComplete s) := by
  refine outOfReset_sound h ?_
  split
  · exact h
  · rename_i r hr
    have hdue : (s.reach r.due).sound := reach_sound h _
    have hdone := completeRun_sound hdue (r := r) (by simpa using hr)
    exact lookAfter_sound (runEnds_sound hdone (by simpa [State.loaded] using h.loaded_of_run hr) _) _ _

/-- In LOADING and FAULT no close, window, check or guard is under way (R197). -/
theorem loaded_of_recountItem (hitem : s.recount.closeWaiting = true ∨ s.recount.windowTimer ≠ none ∨
    s.recount.checkTimer ≠ none ∨ s.recount.guardTimer ≠ none) : s.loaded := by
  refine h.loaded_of_recount fun hreset => ?_
  simp [hreset, Recount.reset] at hitem

theorem closeBegin_soundAfter : soundAfter (exec .closeBegin s) := by
  refine outOfReset_sound h ?_
  split
  · rename_i hcond
    exact beginClose_sound h (loaded_of_recountItem h (.inl hcond.1))
  · exact h

/-- In LOADING and FAULT neither listening nor an isolation hold is under way (R197). -/
theorem loaded_of_stationItem (hitem : s.station.listenWaiting = true ∨ s.station.listenTimer ≠ none ∨
    s.station.holdTimer ≠ none) : s.loaded := by
  by_contra hs
  obtain ⟨-, -, -, hlisten, hwaiting, hhold⟩ := h.unloaded hs
  simp [hlisten, hwaiting, hhold] at hitem

theorem endOfListening_soundAfter : soundAfter (exec .endOfListening s) := by
  refine outOfReset_sound h ?_
  split
  · rename_i hcond
    exact decideListening_sound h (loaded_of_stationItem h (.inl hcond.1))
  · exact h

theorem snapshotTaken_soundAfter : soundAfter (exec .snapshotTaken s) := by
  refine outOfReset_sound h ?_
  split
  · exact takeSnapshotNow_sound h
  · exact h

/-! ### Timers -/

theorem windowTimerExpiry_soundAfter : soundAfter (exec .windowTimerExpiry s) := by
  refine outOfReset_sound h ?_
  split
  · exact h
  · rename_i hr
    have hs := loaded_of_recountItem h (.inr (.inl (by simp [hr])))
    refine withRecount_sound (reach_sound h _) hs ?_
    exact h.recount

theorem checkTimerExpiry_soundAfter : soundAfter (exec .checkTimerExpiry s) := by
  refine outOfReset_sound h ?_
  split
  · exact h
  · rename_i hr
    have hs := loaded_of_recountItem h (.inr (.inr (.inl (by simp [hr]))))
    refine lookAfter_sound (giveCause_sound (withRecount_sound (reach_sound h _) hs ?_) _) _ _
    exact h.recount

theorem guardTimerExpiry_soundAfter : soundAfter (exec .guardTimerExpiry s) := by
  refine outOfReset_sound h ?_
  split
  · exact h
  · rename_i x hr
    have hs := loaded_of_recountItem h (.inr (.inr (.inr (by simp [hr]))))
    have hended : ((s.reach x).withRecount { (s.reach x).recount with
        guardTimer := none, causes := ⟨false, false, false⟩ }).sound :=
      withRecount_sound (reach_sound h _) hs (by exact h.recount)
    refine lookAfter_sound ?_ _ _
    unfold State.guardEnds
    dsimp only
    split
    · exact hended
    · exact requestRecount_sound hended hs _

theorem listenTimerExpiry_soundAfter : soundAfter (exec .listenTimerExpiry s) := by
  refine outOfReset_sound h ?_
  split
  · exact h
  · rename_i hr
    have hs := loaded_of_stationItem h (.inr (.inl (by simp [hr])))
    exact withStation_sound (reach_sound h _) rfl (.inl hs)

theorem beaconTimerExpiry_soundAfter : soundAfter (exec .beaconTimerExpiry s) := by
  refine outOfReset_sound h ?_
  split
  · exact h
  · rename_i x hr
    have hrestarted : ((s.reach x).withStation { (s.reach x).station with
        beaconTimer := some ((s.reach x).after (s.reach x).tBeacon) }).sound :=
      withStation_sound (reach_sound h x) rfl (.inr ⟨rfl, rfl, rfl⟩)
    unfold State.beaconEnds
    dsimp only
    split
    · exact hrestarted
    · exact enqueue_sound hrestarted (by trivial)

theorem memberSilent_soundAfter (n : StationNo) : soundAfter (exec (.memberSilent n) s) := by
  refine outOfReset_sound h ?_
  split
  · exact h
  · split
    · refine lookAfter_sound (actOnSilence_sound ?_) _ _
      exact updateMember_sound (reach_sound h _) fun _ => rfl
    · exact h

theorem isolationHoldExpiry_soundAfter : soundAfter (exec .isolationHoldExpiry s) := by
  refine outOfReset_sound h ?_
  split
  · exact h
  · rename_i hr
    have hs := loaded_of_stationItem h (.inr (.inr (by simp [hr])))
    exact enterListen_sound_of (reach_sound h _) ((reach_sound h _).weight hs)

omit h in
theorem ghost?_eq_some {x : Table} {n : StationNo} {g : Ghost} : x.ghost? n = some g ↔ x.entryAt n = .ghost g := by
  unfold Table.ghost?
  cases x.entryAt n <;> simp

theorem ghostTimerExpiry_soundAfter (n : StationNo) : soundAfter (exec (.ghostTimerExpiry n) s) := by
  refine outOfReset_sound h ?_
  split
  · exact h
  · rename_i g hg
    split
    · exact h
    · have hexpired : (Entry.ghost ⟨g.grant, none⟩).shares = (s.table.entryAt n).shares := by
        rw [ghost?_eq_some.1 hg]
        rfl
      exact lookAfter_sound (withTable_sound (reach_sound h _) (setEntry_sameShares hexpired) rfl rfl) _ _

theorem lowerRequestDeadline_soundAfter : soundAfter (exec .lowerRequestDeadline s) := by
  refine outOfReset_sound h ?_
  split
  · exact h
  · exact lookAfter_sound (cutOff_sound (reach_sound h _)) _ _

theorem ownSlowTimerExpiry_soundAfter : soundAfter (exec .ownSlowTimerExpiry s) := by
  refine outOfReset_sound h ?_
  split
  · exact h
  · refine lookAfter_sound ?_ _ _
    unfold State.slowEnds
    split
    · refine enqueue_sound ?_ (by trivial)
      exact h.of_queue h.queue (by simp)
    · exact h.of_queue h.queue (by simp)

theorem deferralExpiry_soundAfter : soundAfter (exec .deferralExpiry s) := by
  refine outOfReset_sound h ?_
  split
  · exact h
  · exact h.of_queue h.queue (by simp)

/-! ### Every command, and the step -/

theorem exec_soundAfter (i : Instr) : soundAfter (exec i s) := by
  cases i with
  | powerReset => exact powerReset_soundAfter
  | resetRelease straps => exact resetRelease_soundAfter h straps
  | readAttemptComplete bytes => exact readAttemptComplete_soundAfter h bytes
  | readAttemptFailed => exact (readFails_soundAfter h).1
  | sclHoldTimeout => exact (readFails_soundAfter h).2
  | readRetryWaitExpiry => exact readRetryWaitExpiry_soundAfter h
  | lineStartupSettled => exact lineStartupSettled_soundAfter h
  | transactionBegin => exact (transactions_soundAfter h).1
  | transactionEnd => exact (transactions_soundAfter h).2
  | unknownRequest code => exact unknownRequest_soundAfter h code
  | status => exact status_soundAfter h
  | setDemand v => exact setDemand_soundAfter h v
  | confirm v => exact confirm_soundAfter h v
  | clearCutoff => exact clearCutoff_soundAfter h
  | takeSnapshot => exact takeSnapshot_soundAfter h
  | readSummary => exact readSummary_soundAfter h
  | readEntry n => exact readEntry_soundAfter h n
  | readEvents => exact readEvents_soundAfter h
  | clearEvents mask => exact clearEvents_soundAfter h mask
  | setMask mask => exact setMask_soundAfter h mask
  | readCounters => exact readCounters_soundAfter h
  | clearCounters => exact clearCounters_soundAfter h
  | leave => exact leave_soundAfter h
  | join => exact join_soundAfter h
  | restart => exact restart_soundAfter h
  | readConfig => exact readConfig_soundAfter h
  | lineActivityStart => exact lineActivityStart_soundAfter h
  | frameReceived cells => exact frameReceived_soundAfter h cells
  | takeFrame => exact takeFrame_soundAfter h
  | engineRunComplete => exact engineRunComplete_soundAfter h
  | windowTimerExpiry => exact windowTimerExpiry_soundAfter h
  | closeBegin => exact closeBegin_soundAfter h
  | listenTimerExpiry => exact listenTimerExpiry_soundAfter h
  | endOfListening => exact endOfListening_soundAfter h
  | snapshotTaken => exact snapshotTaken_soundAfter h
  | checkTimerExpiry => exact checkTimerExpiry_soundAfter h
  | guardTimerExpiry => exact guardTimerExpiry_soundAfter h
  | beaconTimerExpiry => exact beaconTimerExpiry_soundAfter h
  | memberSilent n => exact memberSilent_soundAfter h n
  | isolationHoldExpiry => exact isolationHoldExpiry_soundAfter h
  | ghostTimerExpiry n => exact ghostTimerExpiry_soundAfter h n
  | lowerRequestDeadline => exact lowerRequestDeadline_soundAfter h
  | ownSlowTimerExpiry => exact ownSlowTimerExpiry_soundAfter h
  | deferralExpiry => exact deferralExpiry_soundAfter h
  | slotStart => exact slotStart_soundAfter h
  | backoffSlotExpiry k => exact backoffSlotExpiry_soundAfter h k
  | readBackMismatch => exact readBackMismatch_soundAfter h
  | endOfJam => exact endOfJam_soundAfter h
  | ownFrameCompletion => exact ownFrameCompletion_soundAfter h
  | lineStateJam => exact lineStateJam_soundAfter h
  | jamDriveEnd => exact jamDriveEnd_soundAfter h
  | lastDataByteSent => exact lastDataByteSent_soundAfter h

theorem withPending_sound (l : List Instr) : (s.withPending l).sound := h.of_queue h.queue (by simp)

theorem step_soundAfter : soundAfter (step s) := by
  unfold step
  split
  · refine soundAfter_next ?_
    unfold State.idle
    split
    · exact withPending_sound h _
    · exact h.of_queue h.queue (by simp)
  · exact exec_soundAfter (withPending_sound h _) _

omit h in
/-- While entitlement-valid holds no run is in progress, and R39 holds (R6, R31). -/
theorem sharesBudget_of_shareInv (hs : s.shareInv) (hvalid : s.table.entValid = true) : s.sharesBudget := by
  obtain ⟨-, -, hidle, hrunning⟩ := hs
  cases hr : s.engine.run with
  | none => exact (hidle hr).2
  | some r =>
    rw [(hrunning r hr).1] at hvalid
    cases hvalid

end

/-- Settles O58: shareInv and weightInv are `State.sound`, which each command keeps, and R39 is its part for an engine
that is IDLE. -/
theorem stepsKeepTheBudgetShared : Obligations.StepsKeepTheBudgetShared := by
  intro s hshare hweight
  refine ⟨sharesBudget_of_shareInv hshare, fun t ht => ?_⟩
  obtain ⟨hshare', hweight'⟩ := sound_iff.1 (step_soundAfter (sound_iff.2 ⟨hshare, hweight⟩) t ht)
  exact ⟨hshare', hweight', sharesBudget_of_shareInv hshare'⟩

end Sys2Proof.Machine
end

section
/-! The completion of a run (R40, R41): its moment and passes, what it makes of the lower request, and the ends of a
close and of a lone formation (R86, R104). -/

namespace Sys2Proof.Machine

/-! ### Passes and duration (R36, R42) -/

theorem runReads_share_length {s : State} {r : Run} (h : s.runReads r) : r.share.length ≤ 32 := by
  obtain ⟨hshare, -⟩ := h
  rw [hshare]
  exact (List.length_filter_le _ _).trans (sharers_length_le _)

theorem runPasses_duration (rotor : Nat) {share : List Sharer} (h : share ≠ []) (remaining : Nat)
    (found : List (StationNo × Nat)) (passes : Nat) :
    3 ≤ (runPasses rotor share.length share remaining found passes 0).duration := by
  cases share with
  | nil => exact absurd rfl h
  | cons i l =>
    rw [List.length_cons, runPasses, if_neg h]
    split
    · simp
    · obtain ⟨-, hge, -⟩ := runPasses_bounds rotor l.length
        ((i :: l).filter fun j => !Sharer.capped remaining (totalWeight (i :: l)) j)
        (remaining - totalDemand ((i :: l).filter (Sharer.capped remaining (totalWeight (i :: l)))))
        (found ++ ((i :: l).filter (Sharer.capped remaining (totalWeight (i :: l)))).map
          fun j => (j.station, j.demand)) (passes + 1) (0 + 3 + (i :: l).length)
      exact le_trans (by omega) hge

/-- A run makes at most 32 passes and takes from 3 to 624 microseconds (R36, R42). -/
theorem result_bounds {s : State} {r : Run} (h : s.runReads r) :
    r.result.passes ≤ 32 ∧ 3 ≤ r.result.duration ∧ r.result.duration ≤ 624 := by
  have hlen := runReads_share_length h
  obtain ⟨-, -, hpasses, -⟩ := h
  unfold Run.result
  split
  · simp [hpasses]
  · rename_i hshare
    obtain ⟨hp, -, hd⟩ := runPasses_bounds r.rotor r.share.length r.share r.remaining r.found r.passes 0
    have hge := runPasses_duration r.rotor hshare r.remaining r.found r.passes
    have hmul : r.share.length * (r.share.length + 7) ≤ 32 * 39 := Nat.mul_le_mul hlen (by omega)
    omega

/-! ### The look at the YIELD need at a run's end (R59 to R62) -/

section
variable {c u v : State}

/-- The end of a command with no item changed leaves the state (R154). -/
theorem lookAfter_self (u : State) : u.lookAfter u false = u := by
  refine lookAfter_unchanged u u rfl rfl rfl rfl fun hfreed => ?_
  obtain ⟨sl, hm, hsl⟩ := List.any_eq_true.1 hfreed
  have hnone : slotOf sl.kind u.queue = none := by simpa using (Bool.and_eq_true_iff.1 hsl).2
  exact slotOf_eq_none.1 hnone sl hm rfl

/-- What a look has made of the lower request stands where Grant Control, time and the flags of the request stay, and
no CLAIM comes to wait beside a request. -/
theorem yieldJudged_of_same (h : c.yieldJudged u) (hgrant : v.grant = u.grant) (hloader : v.loader = u.loader)
    (hnow : v.now = u.now) (hrequest : v.events.flagSet .lowerRequest ↔ u.events.flagSet .lowerRequest)
    (hwithdrawn : v.events.flagSet .lowerWithdrawn ↔ u.events.flagSet .lowerWithdrawn)
    (hqueue : u.grant.lower ≠ none → noneWaits u.queue .claim → noneWaits v.queue .claim) :
    c.yieldJudged v := by
  have hown : v.own = u.own := by
    unfold State.own
    rw [hloader]
  unfold State.yieldJudged at h ⊢
  simp only [hgrant, hown, hnow, hrequest, hwithdrawn]
  obtain ⟨hcreated, hrest⟩ := h
  refine ⟨fun hnone hneed => ?_, hrest⟩
  obtain ⟨hlower, hwaits⟩ := hcreated hnone hneed
  exact ⟨hlower, hqueue (by simp [hlower]) hwaits⟩

/-- The notices that clear claim back-off, and the look at the YIELD need after them (R24, R59). -/
theorem giveNotices_true_judged (hw : u.working) (hlower : u.grant.lower = c.grant.lower)
    (hrequest : u.events.flagSet .lowerRequest ↔ c.events.flagSet .lowerRequest)
    (hwithdrawn : u.events.flagSet .lowerWithdrawn ↔ c.events.flagSet .lowerWithdrawn)
    (hloader : u.loader = c.loader) : c.yieldJudged (u.giveNotices true) := by
  have hgive : u.giveNotices true = u.clearBackoff.noticeChanged.lookYield := rfl
  have hwork : u.clearBackoff.noticeChanged.working := by simpa [State.working] using hw
  have hjudged := lookYield_yieldJudged (s := c) hwork (.inl (by simpa using hlower)) (by simpa using hrequest)
    (by simpa using hwithdrawn) (by simpa using hloader) u.clearBackoff.noticeChanged.lookYield false
  rw [lookAfter_self] at hjudged
  rw [hgive]
  exact hjudged

theorem giveNotices_true_lower (hw : ¬ u.working) : (u.giveNotices true).grant.lower = u.grant.lower := by
  have hwork : ¬ u.clearBackoff.noticeChanged.working := by simpa [State.working] using hw
  unfold State.giveNotices
  rw [if_pos rfl, lookYield_of_not_working _ hwork]
  simp

/-- The queue after notices: as it was, or with a waiting CLAIM withdrawn (R52, R60). -/
theorem lookYield_queue (u : State) : u.lookYield.queue = u.queue ∨
    u.lookYield.queue = (u.withdrawWaiting .claim).queue := by
  unfold State.lookYield
  (repeat' split) <;> simp [State.createLower, State.withdrawWaiting]

theorem giveNotices_true_queue (u : State) : (u.giveNotices true).queue = u.queue ∨
    (u.giveNotices true).queue = (u.withdrawWaiting .claim).queue := by
  have h := lookYield_queue u.clearBackoff.noticeChanged
  have hgive : u.giveNotices true = u.clearBackoff.noticeChanged.lookYield := rfl
  rw [hgive]
  simpa [State.withdrawWaiting] using h

theorem giveNotices_true_seen (u : State) : (u.giveNotices true).grant.seen = u.noticeNow := by
  have hgive : u.giveNotices true = u.clearBackoff.noticeChanged.lookYield := rfl
  have hnotice : u.clearBackoff.noticeNow = u.noticeNow := noticeNow_of_table (by simp) (by simp)
  rw [hgive]
  simp [hnotice]

/-! ### What every end of a run leaves of the completed run's state (R41) -/

/-- In `v` the run completed in `c` has ended: Grant Control has heard the table and looked at the YIELD need. -/
structure State.runEnded (c v : State) : Prop where
  beside : v.now = c.now ∧ v.loader = c.loader
  blocks : v.table = c.table ∧ v.engine = c.engine ∧ v.ring.entries = c.ring.entries
  grant : v.grant.applied = c.grant.applied ∧ v.grant.demand = c.grant.demand ∧
    v.grant.cutoff = c.grant.cutoff ∧ v.grant.backoff = false
  heard : v.grant.seen = c.noticeNow ∧ v.grant.sharedDemand = c.dOwn
  counters : v.events.counters = c.events.counters
  judged : v.working → c.yieldJudged v
  unjudged : ¬ v.working → v.grant.lower = c.grant.lower

theorem dOwn_of_table (htable : u.table = c.table) (hloader : u.loader = c.loader) : u.dOwn = c.dOwn := by
  simp [State.dOwn, State.ownMember?, State.own, htable, hloader]

/-- The notices end a run where nothing before them has touched table, Grant Control or the flags of a request. -/
theorem giveNotices_runEnded (hbeside : u.now = c.now ∧ u.loader = c.loader)
    (hblocks : u.table = c.table ∧ u.engine = c.engine ∧ u.ring.entries = c.ring.entries)
    (hgrant : u.grant = c.grant) (hcounters : u.events.counters = c.events.counters)
    (hrequest : u.events.flagSet .lowerRequest ↔ c.events.flagSet .lowerRequest)
    (hwithdrawn : u.events.flagSet .lowerWithdrawn ↔ c.events.flagSet .lowerWithdrawn) :
    c.runEnded (u.giveNotices true) := by
  obtain ⟨hnow, hloader⟩ := hbeside
  obtain ⟨htable, hengine, hring⟩ := hblocks
  have hworking : (u.giveNotices true).working ↔ u.working := by simp [State.working]
  refine ⟨by simp [hnow, hloader], by simp [htable, hengine, hring], by simp [hgrant], ⟨?_, ?_⟩,
    by simp [hcounters], fun hw => ?_, fun hw => ?_⟩
  · rw [giveNotices_true_seen, noticeNow_of_table htable hloader]
  · rw [giveNotices_sharedDemand, dOwn_of_table htable hloader]
  · exact giveNotices_true_judged (hworking.1 hw) (by rw [hgrant]) hrequest hwithdrawn hloader
  · rw [giveNotices_true_lower (mt hworking.2 hw), hgrant]

/-- The look at the standing conditions leaves that. -/
theorem State.runEnded.lookAfter (h : c.runEnded v) (b : State) (freed : Bool) :
    c.runEnded (v.lookAfter b freed) := by
  have hworking : (v.lookAfter b freed).working ↔ v.working := by simp [State.working]
  refine ⟨by simpa using h.beside, by simpa using h.blocks, by simpa using h.grant, by simpa using h.heard,
    by simpa using h.counters, fun hw => ?_, fun hw => ?_⟩
  · refine yieldJudged_of_same (h.judged (hworking.1 hw)) (by simp) (by simp) (by simp) (by simp) (by simp) ?_
    exact fun hlower => lookAfter_noneWaits_claim b freed (.inl hlower)
  · simpa using h.unjudged (mt hworking.2 hw)

end

/-! ### The settle of a station that is alone (R88, R89, R2) -/

section
variable {u : State}

theorem allConfirmed_iff (u : State) :
    u.allConfirmed ↔ ∀ n m, n ≠ u.own → u.table.member? n = some m → m.confirmed = true := by
  simp only [State.allConfirmed, Table.roster, List.all_eq_true, List.mem_filter, mem_stations, true_and,
    isMember_eq_true, Bool.or_eq_true, decide_eq_true_eq]
  constructor
  · intro h n m hn hm
    simpa [hm, hn] using h n ⟨m, hm⟩
  · rintro h n ⟨m, hm⟩
    by_cases hn : n = u.own
    · exact .inl hn
    · exact .inr (by simpa [hm] using h n m hn hm)

/-- With no other member none is marked silent at the settle. -/
theorem settle_of_alone (h : ∀ k, k ≠ u.own → u.table.member? k = none) :
    u.settle = u.settleCommon.replaceCloseBeacon := by
  have hown : u.settleCommon.replaceCloseBeacon.own = u.own := by simp [State.own]
  unfold State.settle State.markSilentAtSettle
  refine if_neg fun hany => ?_
  obtain ⟨n, -, hn⟩ := List.any_eq_true.1 hany
  have htable : u.settleCommon.replaceCloseBeacon.table = u.table := by simp
  rw [htable] at hn
  by_cases hne : n = u.own
  · have hsilent : ∀ m, u.settleCommon.replaceCloseBeacon.settleSilent n m = false := fun m => by
      simp [State.settleSilent, hown, hne]
    cases hm : u.table.member? n <;> simp [hm, hsilent] at hn
  · simp [h n hne] at hn

@[simp] theorem settleCommon_values (u : State) :
    u.settleCommon.recount = { u.recount with
      phase := .none, count := 0, checkTimer := none, guardTimer := some (u.after u.tGuard) } ∧
    u.settleCommon.station = { u.station with beaconTimer := some (u.after u.tBeacon) } ∧
    u.settleCommon.events.counters = u.events.counters := ⟨rfl, rfl, rfl⟩

theorem settleCommon_flagSet (u : State) (e : Event) :
    u.settleCommon.events.flagSet e ↔ e = .recountSettled ∨ u.events.flagSet e := raise_flagSet _ _ _

/-- The timers of a settle run from its moment (R88, R104, R106). -/
theorem settlesAt_of {s t : State} (hrecount : ∃ x : Recount, t.recount = { x with
      phase := .none, count := 0, checkTimer := none, guardTimer := some (u.after u.tGuard) })
    (hstation : t.station.beaconTimer = some (u.after u.tBeacon)) (hnow : t.now = u.now)
    (hloader : u.loader = s.loader) : s.settlesAt t := by
  obtain ⟨x, hx⟩ := hrecount
  simp [State.settlesAt, hx, hstation, hnow, State.after, State.tGuard, State.tBeacon, State.config, hloader]

end

end Sys2Proof.Machine
end

section
/-! The Transmit Queue under a request, a withdrawal and the replacing of the close BEACON (R89, R145, R146, R152). -/

namespace Sys2Proof.Machine

/-! ### The slots after a request (R145, R146) -/

/-- A slot of the queue after a request stood there before, is the one the request reached, or is new. -/
theorem mem_enqueue_cases {now : Time} {p : Payload} {q : List Slot} {sl : Slot} (h : sl ∈ enqueue now p q) :
    sl ∈ q ∨ (∃ o ∈ q, o.kind = p.kind ∧ sl = o.requested p) ∨ sl = Slot.fresh now p := by
  unfold enqueue at h
  split at h
  · obtain ⟨o, ho, rfl⟩ := List.mem_map.1 h
    split
    · exact .inr (.inl ⟨o, ho, ‹_›, rfl⟩)
    · exact .inl ho
  · split at h
    · rcases List.mem_append.1 h with hm | hm
      · exact .inl hm
      · exact .inr (.inr (List.mem_singleton.1 hm))
    · split at h
      · exact .inl h
      · rcases List.mem_append.1 h with hm | hm
        · exact .inl (List.filter_subset_self _ hm)
        · exact .inr (.inr (List.mem_singleton.1 hm))

/-- What the request leaves in the slot that it reaches: the follow-on value is `p` or the old one. -/
theorem requested_values (p : Payload) (o : Slot) :
    ((o.requested p).payload = p ∨ (o.requested p).payload = o.payload) ∧
    ((o.requested p).followOn = some p ∨ (o.requested p).followOn = o.followOn) := by
  unfold Slot.requested
  split
  · by_cases hp : p = .slow <;> simp [hp]
  · simp

theorem enqueue_of_room {q : List Slot} {p : Payload} (now : Time) (hkind : ∀ sl ∈ q, sl.kind ≠ p.kind)
    (hroom : q.length < 4) : enqueue now p q = q ++ [Slot.fresh now p] := by
  unfold enqueue
  rw [slotOf_eq_none.2 hkind]
  exact if_pos hroom

theorem enqueue_length_le (now : Time) (p : Payload) (q : List Slot) :
    (enqueue now p q).length ≤ q.length + 1 := by
  unfold enqueue
  split
  · simp [updateSlot]
  · split
    · simp
    · split
      · omega
      · rename_i d _
        have hfree : (freeSlot d.kind q).length ≤ q.length := List.length_filter_le _ _
        simpa using hfree

/-- With a free slot the queue carries what is asked for (R145). -/
theorem carries_enqueue_of_room {q : List Slot} {p : Payload} (now : Time) (h : queueOk q) (hroom : q.length < 4)
    (hp : p ≠ .slow) : carries (enqueue now p q) p := by
  by_cases hkind : ∀ sl ∈ q, sl.kind ≠ p.kind
  · rw [enqueue_of_room now hkind hroom]
    exact ⟨Slot.fresh now p, by simp, rfl⟩
  · cases hslot : slotOf p.kind q with
    | none => exact absurd (slotOf_eq_none.1 hslot) hkind
    | some sl =>
      have hm : sl ∈ q := List.mem_of_find?_eq_some hslot
      have hsame : sl.kind = p.kind := by simpa using List.find?_some hslot
      obtain ⟨-, -, hrange⟩ := h
      obtain ⟨-, -, hfollow⟩ := hrange sl hm
      have hmem : sl.requested p ∈ enqueue now p q := by
        unfold enqueue
        rw [hslot]
        exact List.mem_map.2 ⟨sl, hm, if_pos hsame⟩
      refine ⟨sl.requested p, hmem, ?_⟩
      unfold Slot.requested
      split
      · simp
      · cases hf : sl.followOn with
        | none => simp
        | some r => exact absurd (hfollow r hf).2 ‹_›

/-- A request for another kind leaves the RECOUNT slot of a queue within its slots. -/
theorem mem_enqueue_of_recount {q : List Slot} {p : Payload} {sl : Slot} (now : Time) (h : queueSound q)
    (hm : sl ∈ q) (hkind : sl.kind = .recount) (hp : p.kind ≠ .recount) : sl ∈ enqueue now p q := by
  unfold enqueue
  split
  · exact List.mem_map.2 ⟨sl, hm, if_neg (by rw [hkind]; exact hp.symm)⟩
  · split
    · exact List.mem_append_left _ hm
    · split
      · exact hm
      · rename_i d hd
        have hlow := displaced_standing h (Nat.le_of_not_lt ‹_›) hd
        have hne : d.kind ≠ .recount := by
          intro hd
          unfold Slot.kind at hd
          cases hb : d.payload <;> simp [hb, Payload.kind, Payload.standing] at hd hlow
        exact List.mem_append_left _ (List.mem_filter.2 ⟨hm, by simpa [hkind] using hne.symm⟩)

/-- So a LEAVE queued stays queued, and none comes (R92). -/
theorem leaveQueued_enqueue_other {u : State} {p : Payload} (h : queueSound u.queue) (hp : p.kind ≠ .recount) :
    (u.enqueue p).leaveQueued ↔ u.leaveQueued := by
  have hnot : p.isLeave = false := by
    cases p <;> simp_all [Payload.isLeave, Payload.kind]
  simp only [State.leaveQueued, List.any_eq_true, Bool.or_eq_true]
  constructor
  · rintro ⟨sl, hm, hleave⟩
    rcases mem_enqueue_cases hm with hm | ⟨o, ho, -, rfl⟩ | rfl
    · exact ⟨sl, hm, hleave⟩
    · refine ⟨o, ho, ?_⟩
      obtain ⟨hpayload, hfollow⟩ := requested_values p o
      rcases hpayload with hpayload | hpayload <;> rcases hfollow with hfollow | hfollow <;>
        simp_all
    · simp [Slot.fresh, hnot] at hleave
  · rintro ⟨sl, hm, hleave⟩
    exact ⟨sl, mem_enqueue_of_recount _ h hm (kind_of_isLeave h hm hleave) hp, hleave⟩

/-! ### The close BEACON keeps its place (R146) -/

/-- The slot that makes room waits (R146). -/
theorem waiting_of_displaced {p : Payload} {q : List Slot} {d : Slot} (h : displaced p q = some d) :
    d.waiting := by
  have hstep : ∀ (best : Option Slot) (sl : Slot), (∀ b ∈ best, b.waiting) →
      ∀ b ∈ betterOf p best sl, b.waiting := by
    intro best sl hbest b hb
    unfold betterOf at hb
    split at hb
    · rename_i hsl
      obtain ⟨hwait, -⟩ := hsl
      cases best with
      | none => exact Option.some.inj hb ▸ hwait
      | some c =>
        dsimp only at hb
        split at hb
        · exact Option.some.inj hb ▸ hwait
        · exact hbest b hb
    · exact hbest b hb
  have hfold : ∀ (l : List Slot) (best : Option Slot), (∀ b ∈ best, b.waiting) →
      ∀ b ∈ l.foldl (betterOf p) best, b.waiting := by
    intro l
    induction l with
    | nil => exact fun _ hbest => hbest
    | cons a l ih => exact fun best hbest => ih _ (hstep best a hbest)
  exact hfold q none (by simp) d h

/-- A SLOW frame does not displace the close BEACON. -/
theorem carries_closeBeacon_enqueue_slow {q : List Slot} (now : Time) (h : queueSound q)
    (hc : carries q (.beacon true)) : carries (enqueue now .slow q) (.beacon true) := by
  obtain ⟨sl, hm, hsl⟩ := hc
  have hkind : sl.kind = .beacon := by rw [← kind_of_carried h hm, hsl]; rfl
  refine ⟨sl, ?_, hsl⟩
  unfold enqueue
  split
  · exact List.mem_map.2 ⟨sl, hm, if_neg (by rw [hkind]; simp [Payload.kind])⟩
  · split
    · exact List.mem_append_left _ hm
    · split
      · exact hm
      · rename_i d hd
        obtain ⟨hmem, hlow⟩ := mem_of_displaced hd
        have hne : sl.kind ≠ d.kind := by
          intro heq
          obtain ⟨⟨-, hkinds, hrange⟩, -⟩ := h
          obtain rfl := List.inj_on_of_nodup_map hkinds hm hmem heq
          cases hf : sl.followOn with
          | none =>
            have hpayload : sl.payload = .beacon true := by simpa [hf] using hsl
            simp [hpayload, Payload.standing] at hlow
          | some r =>
            obtain ⟨-, -, hfollow⟩ := hrange sl hm
            exact waiting_of_displaced hd (hfollow r hf).2
        exact List.mem_append_left _ (List.mem_filter.2 ⟨hm, by simpa using hne⟩)

/-- Nor does a withdrawal of another kind take it. -/
theorem carries_filter_of_kind {q : List Slot} {r : Payload} {k : Kind} (h : queueSound q) (hk : k ≠ r.kind)
    (hc : carries q r) : carries (q.filter fun sl => decide (¬ (sl.kind = k ∧ sl.waiting))) r := by
  obtain ⟨sl, hm, hsl⟩ := hc
  have hkind : sl.kind = r.kind := by rw [← kind_of_carried h hm, hsl]
  exact ⟨sl, List.mem_filter.2 ⟨hm, decide_eq_true fun hw => hk (hw.1.symm.trans hkind)⟩, hsl⟩

/-! ### The replacing of the close BEACON (R89, R152) -/

/-- Follow-on values are of the kinds of their slots. -/
def followsKind (q : List Slot) : Prop := ∀ sl ∈ q, ∀ p, sl.followOn = some p → p.kind = sl.kind

theorem followsKind_of_queueOk {q : List Slot} (h : queueOk q) : followsKind q := by
  obtain ⟨-, -, hrange⟩ := h
  intro sl hm p hp
  obtain ⟨-, -, hfollow⟩ := hrange sl hm
  exact (hfollow p hp).1

theorem followsKind_filter {q : List Slot} (h : followsKind q) (f : Slot → Bool) : followsKind (q.filter f) :=
  fun sl hm => h sl (List.filter_subset_self _ hm)

theorem followsKind_enqueue {q : List Slot} (now : Time) (p : Payload) (h : followsKind q) :
    followsKind (enqueue now p q) := by
  intro sl hm r hr
  rcases mem_enqueue_cases hm with hm | ⟨o, ho, hkind, rfl⟩ | rfl
  · exact h sl hm r hr
  · have hsame : (o.requested p).kind = o.kind := (requested_kind hkind).trans hkind.symm
    obtain ⟨-, hfollow | hfollow⟩ := requested_values p o
    · rw [hsame, hkind]
      obtain rfl : p = r := by simpa [hr] using hfollow.symm
      rfl
    · rw [hsame]
      exact h o ho r (hfollow ▸ hr)
  · simp [Slot.fresh] at hr

theorem ne_closeBeacon_of_kind {q : List Slot} (h : followsKind q) {sl : Slot} (hm : sl ∈ q)
    (hkind : sl.kind ≠ .beacon) : sl.payload ≠ .beacon true ∧ sl.followOn ≠ some (.beacon true) := by
  refine ⟨fun hp => hkind (by rw [Slot.kind, hp]; rfl), fun hf => hkind ?_⟩
  exact (h sl hm _ hf).symm

theorem noCloseBeacon_enqueue {q : List Slot} {p : Payload} (now : Time) (h : noCloseBeacon q)
    (hp : p ≠ .beacon true) : noCloseBeacon (enqueue now p q) := by
  intro sl hm
  rcases mem_enqueue_cases hm with hm | ⟨o, ho, -, rfl⟩ | rfl
  · exact h sl hm
  · obtain ⟨hpayload, hfollow⟩ := h o ho
    obtain ⟨hp' | hp', hf' | hf'⟩ := requested_values p o <;> simp [hp', hf', hp, hpayload, hfollow]
  · simp [Slot.fresh, hp]

/-- After the settle no close BEACON stands in the queue. -/
theorem replaceCloseBeacon_noCloseBeacon {u : State} (h : followsKind u.queue) :
    noCloseBeacon u.replaceCloseBeacon.queue := by
  have hother := fun {sl} (hm : sl ∈ u.queue) => ne_closeBeacon_of_kind h hm
  unfold State.replaceCloseBeacon
  split
  · rename_i hnone
    exact fun sl hm => hother hm (slotOf_eq_none.1 hnone sl hm)
  · split
    · intro sl hm
      obtain ⟨o, ho, rfl⟩ := List.mem_map.1 hm
      split
      · cases hf : o.followOn <;> simp [Slot.ordinary, hf]
      · exact hother ho ‹_›
    · refine noCloseBeacon_enqueue _ (fun sl hm => ?_) (by simp)
      obtain ⟨hmem, hkind⟩ := List.mem_filter.1 hm
      exact hother hmem (by simpa using hkind)

/-- The look at the standing conditions brings none. -/
theorem lookAfter_noCloseBeacon {u : State} (b : State) (freed : Bool) (h : noCloseBeacon u.queue) :
    noCloseBeacon (u.lookAfter b freed).queue := by
  have hclosed : LookClosed fun v => noCloseBeacon v.queue := by
    refine ⟨fun v p hv hp => noCloseBeacon_enqueue _ hv ?_,
      fun v k _ hv sl hm => hv sl (List.filter_subset_self _ hm), fun v hv => hv⟩
    rintro rfl
    rcases hp with hp | hp | hp | ⟨-, n, -, hp⟩ | ⟨-, hp⟩ <;> simp [Payload.kind] at hp
  exact lookAfter_induction hclosed h b freed

/-- A queue within its slots stays one, with the RECOUNT that it carries and the CLAIMs that wait. -/
theorem queueSound_replaceCloseBeacon {u : State} (h : queueSound u.queue) :
    queueSound u.replaceCloseBeacon.queue := by
  unfold State.replaceCloseBeacon
  split
  · exact h
  · split
    · obtain ⟨⟨hlen, hkinds, hrange⟩, hone⟩ := h
      have hkind : ∀ sl : Slot, (if sl.kind = .beacon then sl.ordinary else sl).kind = sl.kind := by
        intro sl
        split
        · exact Eq.symm ‹_›
        · rfl
      have hstate : ∀ sl : Slot, (if sl.kind = .beacon then sl.ordinary else sl).state = sl.state := by
        intro sl
        split <;> rfl
      refine ⟨⟨by simpa [updateSlot] using hlen, ?_, fun sl hm => ?_⟩, ?_⟩
      · have hsame : (updateSlot .beacon Slot.ordinary u.queue).map Slot.kind = u.queue.map Slot.kind := by
          simp [updateSlot, Function.comp_def, hkind]
        rw [withQueue_queue, hsame]
        exact hkinds
      · obtain ⟨o, ho, rfl⟩ := List.mem_map.1 hm
        obtain ⟨hattempts, hbackoff, hfollow⟩ := hrange o ho
        split
        · refine ⟨hattempts, hbackoff, fun p hp => ?_⟩
          obtain ⟨r, hr, rfl⟩ := Option.map_eq_some_iff.1 hp
          exact ⟨rfl, (hfollow r hr).2⟩
        · exact ⟨hattempts, hbackoff, hfollow⟩
      · rw [withQueue_queue, updateSlot, List.filter_map, List.length_map]
        simpa [Function.comp_def, hstate] using hone
    · exact queueSound_enqueue _ _ (queueSound_sublist h List.filter_sublist)

theorem replaceCloseBeacon_carries_recount {u : State} {r : Payload} (h : queueSound u.queue)
    (hr : r.kind = .recount) (hc : carries u.queue r) : carries u.replaceCloseBeacon.queue r := by
  obtain ⟨sl, hm, hsl⟩ := hc
  have hkind : sl.kind = .recount := by rw [← kind_of_carried h hm, hsl, hr]
  unfold State.replaceCloseBeacon
  split
  · exact ⟨sl, hm, hsl⟩
  · split
    · exact ⟨sl, List.mem_map.2 ⟨sl, hm, if_neg (by simp [hkind])⟩, hsl⟩
    · have hfree : queueSound (freeSlot .beacon u.queue) := queueSound_sublist h List.filter_sublist
      exact carries_enqueue_other _ hfree hr (by simp [Payload.kind])
        ⟨sl, List.mem_filter.2 ⟨hm, by simp [hkind]⟩, hsl⟩

theorem replaceCloseBeacon_noneWaits_claim {u : State} (h : noneWaits u.queue .claim) :
    noneWaits u.replaceCloseBeacon.queue .claim := by
  unfold State.replaceCloseBeacon
  split
  · exact h
  · split
    · intro sl hm hkind
      obtain ⟨o, ho, rfl⟩ := List.mem_map.1 hm
      split at hkind
      · cases hkind
      · rw [if_neg ‹_›]
        exact h o ho hkind
    · exact noneWaits_enqueue (noneWaits_filter h _) (by simp [Payload.kind])

end Sys2Proof.Machine
end

section
/-! The look at the standing conditions of an unsettled station, and the one of a station whose queue has room for all
that it asks for (R154). -/

namespace Sys2Proof.Machine

section
variable {u : State}

/-! ### An unsettled station (R51, R56, R57, R27) -/

theorem releaseAgent_of_unsettled (h : ¬ u.settled) : u.releaseAgent = u := if_neg fun hc => h hc.1
theorem demandAgent_of_unsettled (h : ¬ u.settled) : u.demandAgent = u := if_neg fun hc => h hc.1
theorem clearAgent_of_unsettled (h : ¬ u.settled) : u.clearAgent = u := if_neg fun hc => h hc.1
theorem claimAgent_of_unsettled (h : ¬ u.settled) : u.claimAgent = u := if_neg fun hc => h hc.1

/-- Its standing conditions come to the flow hold alone. -/
theorem lookAgain_of_unsettled (h : ¬ u.settled) : u.lookAgain = u ∨ u.lookAgain = u.slowAgent := by
  have hslow : ¬ u.slowAgent.settled := by simpa [State.settled] using h
  unfold State.lookAgain
  rw [releaseAgent_of_unsettled h, demandAgent_of_unsettled hslow, clearAgent_of_unsettled hslow,
    claimAgent_of_unsettled hslow]
  split
  · exact .inr rfl
  · exact .inl rfl

theorem lookChanged_of_unsettled (h : ¬ u.settled) (b : State) : u.lookChanged b = u := by
  simp [State.lookChanged, releaseAgent_of_unsettled h, demandAgent_of_unsettled h, clearAgent_of_unsettled h,
    claimAgent_of_unsettled h]

theorem demandMet_of_unsettled (h : ¬ u.settled) (b : State) :
    u.demandMet b = u ∨ u.demandMet b = u.withdrawWaiting .demand := by
  unfold State.demandMet
  split
  · rw [if_neg fun hc => h hc.1]
    exact .inr rfl
  · exact .inl rfl

theorem releaseMet_cases (u b : State) : u.releaseMet b = u ∨ u.releaseMet b = u.withdrawWaiting .release := by
  unfold State.releaseMet
  split
  · exact .inr rfl
  · exact .inl rfl

/-- The look of an unsettled station withdraws a RELEASE or a DEMAND and asks for a SLOW frame, no more. -/
theorem lookAfter_of_unsettled {P : List Slot → Prop} (h : ¬ u.settled) (hu : P u.queue)
    (hwithdraw : ∀ v : State, ∀ k, k = .release ∨ k = .demand → P v.queue → P (v.withdrawWaiting k).queue)
    (hslow : ∀ v : State, P v.queue → P (v.enqueue .slow).queue) (b : State) (freed : Bool) :
    P (u.lookAfter b freed).queue := by
  have hrelease : P (u.releaseMet b).queue := by
    rcases releaseMet_cases u b with hmet | hmet <;> rw [hmet]
    · exact hu
    · exact hwithdraw u _ (.inl rfl) hu
  have hunsettled : ¬ (u.releaseMet b).settled := by simpa [State.settled] using h
  have hdemand : P ((u.releaseMet b).demandMet b).queue := by
    rcases demandMet_of_unsettled hunsettled b with hmet | hmet <;> rw [hmet]
    · exact hrelease
    · exact hwithdraw _ _ (.inr rfl) hrelease
  have hmet : ¬ ((u.releaseMet b).demandMet b).settled := by simpa [State.settled] using h
  have hagain : P ((u.releaseMet b).demandMet b).lookAgain.queue := by
    rcases lookAgain_of_unsettled hmet with hlook | hlook <;> rw [hlook]
    · exact hdemand
    · unfold State.slowAgent
      split
      · split
        · exact hslow _ hdemand
        · exact hdemand
      · exact hdemand
  unfold State.lookAfter
  dsimp only
  rw [lookChanged_of_unsettled hmet]
  split
  · split
    · exact hagain
    · split
      · exact hagain
      · exact hdemand
  · exact hu

/-- It leaves the close BEACON in a queue within its slots. -/
theorem lookAfter_carries_closeBeacon (h : ¬ u.settled) (hsound : queueSound u.queue)
    (hc : carries u.queue (.beacon true)) (b : State) (freed : Bool) :
    carries (u.lookAfter b freed).queue (.beacon true) := by
  have hlook := lookAfter_of_unsettled (P := fun q => queueSound q ∧ carries q (.beacon true)) h ⟨hsound, hc⟩
    (fun v k hk ⟨hv, hcv⟩ => ⟨queueSound_withdrawWaiting k hv, carries_filter_of_kind hv
      (by rcases hk with rfl | rfl <;> simp [Payload.kind]) hcv⟩)
    (fun v ⟨hv, hcv⟩ => ⟨queueSound_enqueue _ _ hv, carries_closeBeacon_enqueue_slow _ hv hcv⟩) b freed
  exact hlook.2

/-! ### A queue with room (R145) -/

/-- The kinds of the frames in the queue. -/
def hasKinds (q : List Slot) (l : List Kind) : Prop := ∀ sl ∈ q, sl.kind ∈ l

theorem hasKinds_append {q : List Slot} {l : List Kind} (h : hasKinds q l) (now : Time) (p : Payload) :
    hasKinds (q ++ [Slot.fresh now p]) (p.kind :: l) := by
  intro sl hm
  rcases List.mem_append.1 hm with hm | hm
  · exact List.mem_cons_of_mem _ (h sl hm)
  · rw [List.mem_singleton.1 hm]
    exact List.mem_cons_self ..

theorem withdrawWaiting_of_no_kind {k : Kind} (h : ∀ sl ∈ u.queue, sl.kind ≠ k) :
    (u.withdrawWaiting k).queue = u.queue :=
  List.filter_eq_self.2 fun sl hm => decide_eq_true fun hc => h sl hm hc.1

theorem ne_of_hasKinds {q : List Slot} {l : List Kind} (h : hasKinds q l) {k : Kind} (hk : k ∉ l) :
    ∀ sl ∈ q, sl.kind ≠ k := fun sl hm heq => hk (heq ▸ h sl hm)

theorem keep_of_room {p : Payload} (hkind : ∀ sl ∈ u.queue, sl.kind ≠ p.kind) (hroom : u.queue.length < 4) :
    (u.keep p).queue = u.queue ++ [Slot.fresh u.now p] := by
  unfold State.keep
  rw [slotOf_eq_none.2 hkind]
  exact enqueue_of_room _ hkind hroom

/-- A queue that has grown out of `q₀` to at most `n` frames, all of kinds in `l`. -/
def grownTo (q₀ q : List Slot) (n : Nat) (l : List Kind) : Prop := q₀ ⊆ q ∧ q.length ≤ n ∧ hasKinds q l

theorem grownTo_append {q₀ q : List Slot} {n : Nat} {l : List Kind} (h : grownTo q₀ q n l) (now : Time)
    (p : Payload) : grownTo q₀ (q ++ [Slot.fresh now p]) (n + 1) (p.kind :: l) := by
  obtain ⟨hsub, hlen, hkinds⟩ := h
  exact ⟨fun sl hm => List.mem_append_left _ (hsub hm), by simpa using hlen, hasKinds_append hkinds now p⟩

theorem grownTo_weaken {q₀ q : List Slot} {n : Nat} {l : List Kind} (h : grownTo q₀ q n l) (k : Kind) :
    grownTo q₀ q (n + 1) (k :: l) := by
  obtain ⟨hsub, hlen, hkinds⟩ := h
  exact ⟨hsub, by omega, fun sl hm => List.mem_cons_of_mem _ (hkinds sl hm)⟩

section
variable {q₀ : List Slot} {n : Nat} {l : List Kind}

theorem releaseAgent_grownTo (h : grownTo q₀ u.queue n l) (hroom : n < 4) (hk : .release ∉ l) :
    grownTo q₀ u.releaseAgent.queue (n + 1) (.release :: l) := by
  have ⟨_, hlen, hkinds⟩ := h
  unfold State.releaseAgent
  split
  · rw [keep_of_room (p := .release _) (ne_of_hasKinds hkinds hk) (by omega)]
    exact grownTo_append h _ _
  · exact grownTo_weaken h _

theorem demandAgent_grownTo (h : grownTo q₀ u.queue n l) (hroom : n < 4) (hk : .demand ∉ l) :
    grownTo q₀ u.demandAgent.queue (n + 1) (.demand :: l) := by
  have ⟨_, hlen, hkinds⟩ := h
  unfold State.demandAgent
  split
  · rw [keep_of_room (p := .demand _) (ne_of_hasKinds hkinds hk) (by omega)]
    exact grownTo_append h _ _
  · exact grownTo_weaken h _

theorem claimAgent_subset (h : grownTo q₀ u.queue n l) (hroom : u.mayClaim → n < 4) (hk : .claim ∉ l) :
    q₀ ⊆ u.claimAgent.queue := by
  obtain ⟨hsub, hlen, hkinds⟩ := h
  unfold State.claimAgent
  split
  · have hroom := hroom ‹_›
    have hqueue : ∀ p : Payload, p.kind = .claim → (u.enqueue p).queue = u.queue ++ [Slot.fresh u.now p] :=
      fun p hp => enqueue_of_room _ (hp ▸ ne_of_hasKinds hkinds hk) (by omega)
    rw [hqueue _ rfl]
    exact fun sl hm => List.mem_append_left _ (hsub hm)
  · exact hsub

end

theorem releaseAgent_of_met (h : ¬ u.grant.applied < u.gOwn) : u.releaseAgent = u := if_neg fun hc => h hc.2

/-- What follows the RELEASE in a look: without a ghost no CLEAR is asked for (R27), and where a CLAIM may be made
there is room for it after the DEMAND. -/
theorem asks_subset {q₀ : List Slot} {n : Nat} {l : List Kind} (h : grownTo q₀ u.queue n l) (hroom : n < 4)
    (hdemand : .demand ∉ l) (hclaim : .claim ∉ l) (hexpired : u.table.lowestExpired = none)
    (hspare : u.grant.applied = u.gOwn → n < 3) (c d e : Prop) [Decidable c] [Decidable d] [Decidable e] :
    let s2 := if c then u else u.demandAgent
    let s3 := if d then s2 else s2.clearAgent
    q₀ ⊆ (if e then s3 else s3.claimAgent).queue := by
  intro s2 s3
  have h2 : grownTo q₀ s2.queue (n + 1) (.demand :: l) ∧ s2.table = u.table ∧ s2.grant = u.grant ∧
      s2.loader = u.loader := by
    unfold s2
    split
    · exact ⟨grownTo_weaken h _, rfl, rfl, rfl⟩
    · exact ⟨demandAgent_grownTo h hroom hdemand, by simp⟩
  obtain ⟨hgrown, htable, hgrant, hloader⟩ := h2
  have h3 : s3 = s2 := by
    unfold s3
    simp [State.clearAgent, htable, hexpired]
  rw [h3]
  split
  · exact hgrown.1
  · refine claimAgent_subset hgrown (fun hmay => ?_) (by simp [hclaim])
    obtain ⟨-, -, -, -, -, -, -, happlied, -⟩ := hmay
    have hown : s2.gOwn = u.gOwn := by simp [State.gOwn, State.ownMember?, State.own, htable, hloader]
    have := hspare (by rw [← hgrant, happlied, hown])
    omega

/-- Beside a SLOW frame and a BEACON there is room for all that the blocks ask for: no CLAIM is made where a RELEASE
is asked for (R51, R57). -/
theorem lookChanged_subset (hkinds : hasKinds u.queue [.slow, .beacon]) (hlen : u.queue.length ≤ 2)
    (hexpired : u.table.lowestExpired = none) (b : State) : u.queue ⊆ (u.lookChanged b).queue := by
  have hstart : grownTo u.queue u.queue 2 [.slow, .beacon] := ⟨List.Subset.refl _, hlen, hkinds⟩
  have hmet := asks_subset hstart (by omega) (by simp) (by simp) hexpired fun _ => by omega
  by_cases hagent : u.releaseItems ≠ b.releaseItems ∧ u.grant.applied < u.gOwn
  · obtain ⟨hitems, hless⟩ := hagent
    have hgrown := releaseAgent_grownTo hstart (by omega) (by simp)
    have hown : u.releaseAgent.gOwn = u.gOwn := by simp [State.gOwn, State.ownMember?, State.own]
    have hasks := asks_subset hgrown (by omega) (by simp) (by simp) (by simpa using hexpired) fun heq => by
      rw [hown] at heq
      simp at heq
      omega
    simpa only [State.lookChanged, if_neg hitems] using hasks (u.demandItems = b.demandItems)
      (u.clearItems = b.clearItems) (u.claimItems = b.claimItems)
  · have hid : (if u.releaseItems = b.releaseItems then u else u.releaseAgent) = u := by
      split
      · rfl
      · exact releaseAgent_of_met fun hless => hagent ⟨‹_›, hless⟩
    simpa only [State.lookChanged, hid] using hmet (u.demandItems = b.demandItems)
      (u.clearItems = b.clearItems) (u.claimItems = b.claimItems)

/-- So a station whose queue was empty when the command came keeps the BEACON queued in it. -/
theorem lookAfter_subset {b : State} (hkinds : hasKinds u.queue [.slow, .beacon]) (hlen : u.queue.length ≤ 2)
    (hexpired : u.table.lowestExpired = none) (hb : b.queue = []) : u.queue ⊆ (u.lookAfter b false).queue := by
  have hrelease : (u.releaseMet b).queue = u.queue := by
    rcases releaseMet_cases u b with hmet | hmet <;> rw [hmet]
    exact withdrawWaiting_of_no_kind (ne_of_hasKinds hkinds (by simp))
  have hdemand : ((u.releaseMet b).demandMet b).queue = u.queue := by
    have hnone : ∀ sl ∈ (u.releaseMet b).queue, sl.kind ≠ .demand := by
      rw [hrelease]
      exact ne_of_hasKinds hkinds (by simp)
    unfold State.demandMet
    split
    · rw [if_neg fun hc => by
        obtain ⟨sl, hm, hsl⟩ := (holds_iff _ _).1 hc.2.2
        exact hnone sl hm hsl]
      rw [withdrawWaiting_of_no_kind hnone, hrelease]
    · exact hrelease
  have hlook : u.queue ⊆ (((u.releaseMet b).demandMet b).lookChanged b).queue := by
    have hsub := lookChanged_subset (u := (u.releaseMet b).demandMet b) (by rwa [hdemand]) (by rwa [hdemand])
      (by simpa using hexpired) b
    rwa [hdemand] at hsub
  have hfreed : ∀ v w : State, v.queue ⊆ w.queue → ¬ w.freedSince v := by
    intro v w hsub hany
    obtain ⟨sl, hm, hsl⟩ := List.any_eq_true.1 hany
    have hnone : slotOf sl.kind w.queue = none := by simpa using (Bool.and_eq_true_iff.1 hsl).2
    exact slotOf_eq_none.1 hnone sl (hsub hm) rfl
  unfold State.lookAfter
  dsimp only
  split
  · rw [if_neg (by simpa using hfreed b _ (by simp [hb])), if_neg (hfreed _ _ (by rwa [hdemand]))]
    exact hlook
  · exact List.Subset.refl _

end

end Sys2Proof.Machine
end

section
/-! The end of a close and of a lone formation (R86, R89, R104, R160): the states they pass through, and what becomes
of the recount and of the BEACON. -/

namespace Sys2Proof.Machine

section
variable {c u v : State}

/-! ### The entry to MEMBER (R97, R163) -/

/-- The station of R97: what is left of `x` at an entry to MEMBER. -/
def Station.joined (x : Station) : Station := { Station.reset with state := .member, abandonments := x.abandonments }

@[simp] theorem enterMember_values (u : State) : u.enterMember.station = u.station.joined ∧
    u.enterMember.ring.entries = u.ring.entries ∧ u.enterMember.ring.lost = u.ring.lost := by
  simp [State.enterMember, Station.joined, Station.entered]

/-- The flow hold of a station that becomes MEMBER may ask for a SLOW frame, and nothing else is asked for. -/
theorem enterMember_queue (u : State) :
    u.enterMember.queue = u.queue ∨ u.enterMember.queue = (u.enqueue .slow).queue := by
  unfold State.enterMember State.lookFlow
  split
  · exact .inr rfl
  · exact .inl rfl

/-! ### The states that the end of a close passes through (R86) -/

/-- A station that listened has become MEMBER. -/
def State.closeEntered (c : State) : State := if c.station.state = .listen then c.enterMember else c

/-- The phase has become CHECK. -/
def State.closeChecking (c : State) : State := c.closeEntered.withRecount { c.closeEntered.recount with
  phase := .check, target := none, checkTimer := some (c.closeEntered.after c.closeEntered.tCheck) }

/-- LOST has been acted on and the close BEACON asked for. -/
def State.closeAsked (c : State) : State := c.closeChecking.standingLost.enqueue (.beacon true)

theorem closeEnd_eq (c : State) : c.closeEnd = if (c.closeAsked.giveNotices true).allConfirmed then
    (c.closeAsked.giveNotices true).settle else c.closeAsked.giveNotices true := rfl

@[simp] theorem closeEntered_values (c : State) :
    c.closeEntered.now = c.now ∧ c.closeEntered.loader = c.loader ∧ c.closeEntered.table = c.table ∧
    c.closeEntered.engine = c.engine ∧ c.closeEntered.grant = c.grant ∧ c.closeEntered.events = c.events ∧
    c.closeEntered.recount = c.recount ∧ c.closeEntered.ring.entries = c.ring.entries ∧
    c.closeEntered.ring.lost = c.ring.lost ∧
    c.closeEntered.station = if c.station.state = .listen then c.station.joined else c.station := by
  unfold State.closeEntered
  split <;> simp

theorem closeEntered_queue (c : State) :
    c.closeEntered.queue = c.queue ∨ c.closeEntered.queue = (c.enqueue .slow).queue := by
  unfold State.closeEntered
  split
  · exact enterMember_queue c
  · exact .inl rfl

@[simp] theorem closeChecking_values (c : State) :
    c.closeChecking.now = c.now ∧ c.closeChecking.loader = c.loader ∧ c.closeChecking.table = c.table ∧
    c.closeChecking.engine = c.engine ∧ c.closeChecking.grant = c.grant ∧ c.closeChecking.events = c.events ∧
    c.closeChecking.ring.entries = c.ring.entries ∧ c.closeChecking.ring.lost = c.ring.lost ∧
    c.closeChecking.queue = c.closeEntered.queue ∧
    c.closeChecking.station = (if c.station.state = .listen then c.station.joined else c.station) ∧
    c.closeChecking.recount = { c.recount with
      phase := .check, target := none, checkTimer := some (c.after c.tCheck) } := by
  simp [State.closeChecking, State.after, State.tCheck, State.config]

@[simp] theorem closeAsked_values (c : State) :
    c.closeAsked.now = c.now ∧ c.closeAsked.loader = c.loader ∧ c.closeAsked.table = c.table ∧
    c.closeAsked.engine = c.engine ∧ c.closeAsked.grant = c.grant ∧ c.closeAsked.events = c.events ∧
    c.closeAsked.ring.entries = c.ring.entries ∧
    c.closeAsked.station = if c.station.state = .listen then c.station.joined else c.station := by
  simp [State.closeAsked]

/-- A station that took part is MEMBER in phase CHECK. -/
theorem closeChecking_working (h : c.takesPart) : c.closeChecking.working := by
  refine ⟨?_, by simp⟩
  rcases h with h | h <;> simp [h, Station.joined]

/-- Acting on LOST asks for a recount (R71, R160). -/
theorem closeChecking_standingLost (h : c.takesPart) (hlost : c.ring.lost = true) :
    c.closeChecking.standingLost = c.closeChecking.requestRecount .lost := by
  unfold State.standingLost
  rw [if_pos (by simpa using hlost), giveCause_of_working (closeChecking_working h), if_neg (by simp [Cause.guarded])]

theorem standingLost_of_kept (h : u.ring.lost = false) : u.standingLost = u := if_neg (by simp [h])

theorem closeAsked_recount (h : c.takesPart) : c.closeAsked.recount = { c.recount with
    phase := .check, target := none, checkTimer := some (c.after c.tCheck)
    requested := c.recount.requested || c.ring.lost } := by
  unfold State.closeAsked
  cases hlost : c.ring.lost with
  | true => simp [closeChecking_standingLost h hlost]
  | false => simp [standingLost_of_kept (u := c.closeChecking) (by simpa using hlost)]

/-! ### The end of a close hears Grant Control as every run's end does (R24, R41) -/

theorem closeHeard_runEnded (c : State) : c.runEnded (c.closeAsked.giveNotices true) :=
  giveNotices_runEnded (by simp) (by simp) (by simp) (by simp) (by simp) (by simp)

theorem closeAsked_phase (c : State) : c.closeAsked.recount.phase = .check := by
  unfold State.closeAsked State.standingLost
  split <;> simp

/-- The settle leaves that. -/
theorem State.runEnded.settled (h : c.runEnded u) (hphase : u.recount.phase ≠ .window) :
    c.runEnded u.settleCommon.replaceCloseBeacon := by
  have hworking : u.settleCommon.replaceCloseBeacon.working ↔ u.working := by simp [State.working, hphase]
  obtain ⟨hbeside, hblocks, hgrant, hheard, hcounters, hjudged, hunjudged⟩ := h
  refine ⟨by simpa using hbeside, by simpa using hblocks, by simpa using hgrant, by simpa using hheard,
    by simpa using hcounters, fun hw => ?_, fun hw => ?_⟩
  · refine yieldJudged_of_same (hjudged (hworking.1 hw)) (by simp) (by simp) (by simp) ?_ ?_ fun _ hq => ?_
    · simp [settleCommon_flagSet]
    · simp [settleCommon_flagSet]
    · exact replaceCloseBeacon_noneWaits_claim (by simpa using hq)
  · simpa using hunjudged (mt hworking.2 hw)

/-- With members that are unconfirmed a station settles at a close only when it is alone (R88). -/
theorem closeEnd_of_alone (h : ∀ k, k ≠ c.own → c.table.member? k = none) :
    c.closeEnd = (c.closeAsked.giveNotices true).settleCommon.replaceCloseBeacon := by
  have hown : (c.closeAsked.giveNotices true).own = c.own := by simp [State.own]
  have halone : ∀ k, k ≠ (c.closeAsked.giveNotices true).own →
      (c.closeAsked.giveNotices true).table.member? k = none := by simpa [hown] using h
  rw [closeEnd_eq, if_pos ((allConfirmed_iff _).2 fun n m hn hm => by rw [halone n hn] at hm; cases hm),
    settle_of_alone halone]

theorem closeEnd_of_other {k : StationNo} {m : Member} (hk : k ≠ c.own) (hm : c.table.member? k = some m)
    (hunconfirmed : m.confirmed = false) : c.closeEnd = c.closeAsked.giveNotices true := by
  have hown : (c.closeAsked.giveNotices true).own = c.own := by simp [State.own]
  rw [closeEnd_eq, if_neg fun hall => ?_]
  have hconfirmed := (allConfirmed_iff _).1 hall k m (by rwa [hown]) (by simpa using hm)
  simp [hunconfirmed] at hconfirmed

/-- A close ends in the one way or the other. -/
theorem closeEnd_cases (h : ∀ n m, c.table.member? n = some m → m.confirmed = false) :
    c.closeEnd = c.closeAsked.giveNotices true ∨
    c.closeEnd = (c.closeAsked.giveNotices true).settleCommon.replaceCloseBeacon := by
  by_cases halone : ∀ k, k ≠ c.own → c.table.member? k = none
  · exact .inr (closeEnd_of_alone halone)
  · push Not at halone
    obtain ⟨k, hk, hmember⟩ := halone
    obtain ⟨m, hm⟩ := Option.ne_none_iff_exists'.1 hmember
    exact .inl (closeEnd_of_other hk hm (h k m hm))

/-- Every run's end is told to Grant Control (R41). -/
theorem runEnds_runEnded (c : State) (work : RunWork)
    (hclose : work = .close → ∀ n m, c.table.member? n = some m → m.confirmed = false) :
    c.runEnded (c.runEnds work) := by
  cases work with
  | demand => exact giveNotices_runEnded ⟨rfl, rfl⟩ ⟨rfl, rfl, rfl⟩ rfl rfl Iff.rfl Iff.rfl
  | clear => exact giveNotices_runEnded ⟨rfl, rfl⟩ ⟨rfl, rfl, rfl⟩ rfl rfl Iff.rfl Iff.rfl
  | close =>
    have hheard := closeHeard_runEnded c
    have hphase : (c.closeAsked.giveNotices true).recount.phase ≠ .window := by simp [closeAsked_phase]
    change c.runEnded c.closeEnd
    rcases closeEnd_cases (hclose rfl) with hend | hend <;> rw [hend]
    · exact hheard
    · exact hheard.settled hphase
  | loneFormation =>
    exact giveNotices_runEnded (by simp) (by simp) (by simp) (by simp) (by simp [settleCommon_flagSet])
      (by simp [settleCommon_flagSet])

/-! ### The recount that LOST asks for (R72, R160) -/

/-- Since `c` a recount has been asked for, and `r` is the RECOUNT in the queue. -/
structure State.recountAsked (c v : State) (r : Payload) : Prop where
  requested : v.recount.requested = true
  noClaim : c.recount.requested = false → noneWaits v.queue .claim
  queued : queueSound c.queue → queueSound v.queue ∧ carries v.queue r

section
variable {r : Payload}

theorem State.recountAsked.enqueue (h : c.recountAsked v r) (hr : r.kind = .recount) {p : Payload}
    (hclaim : p.kind ≠ .claim) (hrecount : p.kind ≠ .recount) : c.recountAsked (v.enqueue p) r := by
  obtain ⟨hrequested, hnoClaim, hqueued⟩ := h
  refine ⟨by simpa using hrequested, fun hnew => noneWaits_enqueue (hnoClaim hnew) hclaim, fun hsound => ?_⟩
  obtain ⟨hv, hc⟩ := hqueued hsound
  exact ⟨queueSound_enqueue _ _ hv, carries_enqueue_other _ hv hr hrecount hc⟩

theorem State.recountAsked.giveNotices (h : c.recountAsked v r) (hr : r.kind = .recount) :
    c.recountAsked (v.giveNotices true) r := by
  obtain ⟨hrequested, hnoClaim, hqueued⟩ := h
  refine ⟨by simpa using hrequested, fun hnew => ?_, fun hsound => ?_⟩
  · rcases giveNotices_true_queue v with hq | hq <;> rw [hq]
    · exact hnoClaim hnew
    · exact noneWaits_withdrawWaiting _ _
  · obtain ⟨hv, hc⟩ := hqueued hsound
    rcases giveNotices_true_queue v with hq | hq <;> rw [hq]
    · exact ⟨hv, hc⟩
    · exact ⟨queueSound_withdrawWaiting _ hv, carries_withdrawWaiting hv hr (by simp) hc⟩

theorem State.recountAsked.settled (h : c.recountAsked v r) (hr : r.kind = .recount) :
    c.recountAsked v.settleCommon.replaceCloseBeacon r := by
  obtain ⟨hrequested, hnoClaim, hqueued⟩ := h
  refine ⟨by simpa using hrequested, fun hnew => replaceCloseBeacon_noneWaits_claim (by simpa using hnoClaim hnew),
    fun hsound => ?_⟩
  obtain ⟨hv, hc⟩ := hqueued hsound
  have hv' : queueSound v.settleCommon.queue := by simpa using hv
  exact ⟨queueSound_replaceCloseBeacon hv', replaceCloseBeacon_carries_recount hv' hr (by simpa using hc)⟩

end

/-- What is asked for stands at the end of the command (R154). -/
theorem State.recountAsked.asksFor {cause : Cause}
    (h : c.recountAsked v (.recount c.nextTarget (if c.leaveQueued then .leave else cause)))
    (hhighest : v.recount.highest = c.recount.highest) (b : State) (freed : Bool) :
    c.asksFor (v.lookAfter b freed) cause := by
  obtain ⟨hrequested, hnoClaim, hqueued⟩ := h
  refine ⟨by simpa using hrequested, fun hnew => ?_, fun hsound x hx => ?_⟩
  · exact lookAfter_noneWaits_claim b freed (by simp [State.claimHeld, hrequested]) (hnoClaim hnew)
  · obtain ⟨hv, hc⟩ := hqueued hsound
    have htarget : c.nextTarget = x + 1 := by
      have hx' : c.recount.highest = some x := by rw [← hhighest]; simpa using hx
      simp [State.nextTarget, hx']
    rw [← htarget]
    exact lookAfter_carries_recount b freed rfl hv hc

theorem closeEntered_sound (h : queueSound c.queue) :
    queueSound c.closeEntered.queue ∧ (c.closeEntered.leaveQueued ↔ c.leaveQueued) := by
  rcases closeEntered_queue c with hq | hq
  · exact ⟨hq ▸ h, leaveQueued_of_queue hq⟩
  · rw [leaveQueued_of_queue hq, hq]
    exact ⟨queueSound_enqueue _ _ h, leaveQueued_enqueue_other h (by simp [Payload.kind])⟩

/-- At the end of a close LOST asks for a recount (R86, R160). -/
theorem closeAsked_recountAsked (h : c.takesPart) (hlost : c.ring.lost = true) :
    c.recountAsked c.closeAsked (.recount c.nextTarget (if c.leaveQueued then .leave else .lost)) := by
  have hasked : c.recountAsked (c.closeChecking.requestRecount .lost)
      (.recount c.nextTarget (if c.leaveQueued then .leave else .lost)) := by
    refine ⟨by simp, fun hnew => requestRecount_noneWaits_of_new _ (by simpa using hnew), fun hsound => ?_⟩
    obtain ⟨hsound, hleave⟩ := closeEntered_sound hsound
    have hqueue : c.closeChecking.queue = c.closeEntered.queue := by simp
    have htarget : c.closeChecking.nextTarget = c.nextTarget := by simp [State.nextTarget]
    have hcarries := requestRecount_carries (u := c.closeChecking) .lost (by rwa [hqueue])
    simpa only [htarget, leaveQueued_of_queue hqueue, hleave] using hcarries
  unfold State.closeAsked
  rw [closeChecking_standingLost h hlost]
  exact hasked.enqueue rfl (by simp [Payload.kind]) (by simp [Payload.kind])

theorem closeEnd_asksFor (h : c.takesPart) (hlost : c.ring.lost = true)
    (hunconfirmed : ∀ n m, c.table.member? n = some m → m.confirmed = false) (b : State) (freed : Bool) :
    c.asksFor (c.closeEnd.lookAfter b freed) .lost := by
  have hheard := (closeAsked_recountAsked h hlost).giveNotices rfl
  have hhighest : (c.closeAsked.giveNotices true).recount.highest = c.recount.highest := by
    simp [closeAsked_recount h]
  rcases closeEnd_cases hunconfirmed with hend | hend <;> rw [hend]
  · exact hheard.asksFor hhighest b freed
  · exact (hheard.settled rfl).asksFor (by simpa using hhighest) b freed

/-! ### The BEACON (R86, R89, R104) -/

/-- The queue in which LOST has been acted on: within its slots, and longer by no more than a SLOW frame and a
RECOUNT. -/
theorem standingLost_queue (h : queueSound c.queue) : queueSound c.closeChecking.standingLost.queue ∧
    c.closeChecking.standingLost.queue.length ≤ c.queue.length + 2 := by
  have hentered : queueSound c.closeChecking.queue ∧ c.closeChecking.queue.length ≤ c.queue.length + 1 := by
    obtain ⟨hsound, -⟩ := closeEntered_sound h
    have hlen : (c.enqueue .slow).queue.length ≤ c.queue.length + 1 := enqueue_length_le _ _ _
    have hqueue : c.closeChecking.queue = c.closeEntered.queue := by simp
    rw [hqueue]
    rcases closeEntered_queue c with hq | hq
    · exact ⟨hsound, by rw [hq]; omega⟩
    · exact ⟨hsound, by rw [hq]; exact hlen⟩
  generalize c.closeChecking = u at hentered ⊢
  obtain ⟨hsound, hlen⟩ := hentered
  have hle : ∀ p : Payload, (u.enqueue p).queue.length ≤ u.queue.length + 1 := fun p => enqueue_length_le _ _ _
  unfold State.standingLost
  split
  · rcases giveCause_cases u .lost with hgive | hgive | hgive <;> rw [hgive]
    · have hnone : u.addPending .lost = u := addPending_of_pending u rfl
      rw [hnone]
      exact ⟨hsound, by omega⟩
    · obtain ⟨hrequested, -⟩ := requestRecount_carries (u := u) .lost hsound
      refine ⟨hrequested, ?_⟩
      unfold State.requestRecount
      dsimp only
      split
      · exact (hle _).trans (by omega)
      · exact (List.length_filter_le _ _).trans ((hle _).trans (by omega))
    · exact ⟨hsound, by omega⟩
  · exact ⟨hsound, by omega⟩

/-- With other members the queue carries the close BEACON at the end of the command. -/
theorem closeHeard_carries (h : queueOk c.queue) (hlen : c.queue.length ≤ 1) (b : State) (freed : Bool) :
    carries ((c.closeAsked.giveNotices true).lookAfter b freed).queue (.beacon true) := by
  have hsound : queueSound c.queue := ⟨h, (List.length_filter_le _ _).trans hlen⟩
  obtain ⟨hlost, hlostLen⟩ := standingLost_queue hsound
  have hasked : queueSound c.closeAsked.queue ∧ carries c.closeAsked.queue (.beacon true) :=
    ⟨queueSound_enqueue _ _ hlost, carries_enqueue_of_room _ hlost.1 (by omega) (by simp)⟩
  obtain ⟨hasked, hcarries⟩ := hasked
  have hunsettled : ¬ (c.closeAsked.giveNotices true).settled := by simp [State.settled, closeAsked_phase]
  refine lookAfter_carries_closeBeacon hunsettled ?_ ?_ b freed
  · rcases giveNotices_true_queue c.closeAsked with hq | hq <;> rw [hq]
    · exact hasked
    · exact queueSound_withdrawWaiting _ hasked
  · rcases giveNotices_true_queue c.closeAsked with hq | hq <;> rw [hq]
    · exact hcarries
    · exact carries_filter_of_kind hasked (by simp [Payload.kind]) hcarries

theorem followsKind_giveNotices (h : followsKind u.queue) : followsKind (u.giveNotices true).queue := by
  rcases giveNotices_true_queue u with hq | hq <;> rw [hq]
  · exact h
  · exact followsKind_filter h _

theorem followsKind_standingLost (h : followsKind u.queue) : followsKind u.standingLost.queue := by
  unfold State.standingLost
  split
  · rcases giveCause_cases u .lost with hgive | hgive | hgive <;> rw [hgive]
    · have hnone : u.addPending .lost = u := addPending_of_pending u rfl
      rwa [hnone]
    · unfold State.requestRecount
      dsimp only
      split
      · exact followsKind_enqueue _ _ h
      · exact followsKind_filter (followsKind_enqueue _ _ h) _
    · exact h
  · exact h

/-- A station alone has no close BEACON left (R89). -/
theorem closeSettled_noCloseBeacon (h : queueOk c.queue) (b : State) (freed : Bool) :
    noCloseBeacon (((c.closeAsked.giveNotices true).settleCommon.replaceCloseBeacon).lookAfter b freed).queue := by
  have hentered : followsKind c.closeChecking.queue := by
    have hqueue : c.closeChecking.queue = c.closeEntered.queue := by simp
    rw [hqueue]
    rcases closeEntered_queue c with hq | hq <;> rw [hq]
    · exact followsKind_of_queueOk h
    · exact followsKind_enqueue _ _ (followsKind_of_queueOk h)
  have hasked : followsKind c.closeAsked.queue := followsKind_enqueue _ _ (followsKind_standingLost hentered)
  exact lookAfter_noCloseBeacon b freed (replaceCloseBeacon_noCloseBeacon
    (by simpa using followsKind_giveNotices hasked))

/-! ### The ordinary BEACON of a station alone (R89, R104) -/

/-- A SLOW frame at most. -/
def atMostSlow (q : List Slot) : Prop := q.length ≤ 1 ∧ hasKinds q [.slow]

theorem atMostSlow_of_entered (hc : c.queue = [])
    (h : u.queue = c.queue ∨ u.queue = (c.enqueue .slow).queue) : atMostSlow u.queue := by
  rcases h with h | h <;> rw [h]
  · simp [hc, atMostSlow, hasKinds]
  · have henqueue : (c.enqueue .slow).queue = [Slot.fresh c.now .slow] := by
      simp [State.enqueue, hc, Machine.enqueue, slotOf]
    rw [henqueue]
    exact ⟨by simp, by simp [hasKinds, Slot.fresh, Slot.kind, Payload.kind]⟩

/-- The queue that has taken a BEACON beside it. -/
theorem enqueue_beacon_of_atMostSlow {q : List Slot} (h : atMostSlow q) (now : Time) (close : Bool) :
    enqueue now (.beacon close) q = q ++ [Slot.fresh now (.beacon close)] := by
  obtain ⟨hlen, hkinds⟩ := h
  exact enqueue_of_room now (ne_of_hasKinds hkinds (by simp [Payload.kind])) (by omega)

theorem hasKinds_beacon {q : List Slot} (h : atMostSlow q) (now : Time) (close : Bool) :
    hasKinds (q ++ [Slot.fresh now (.beacon close)]) [.slow, .beacon] := by
  obtain ⟨-, hkinds⟩ := h
  intro sl hm
  have := hasKinds_append hkinds now (.beacon close) sl hm
  simpa [Payload.kind, or_comm] using this

theorem giveNotices_of_kinds (h : hasKinds u.queue [.slow, .beacon]) : (u.giveNotices true).queue = u.queue := by
  rcases giveNotices_true_queue u with hq | hq <;> rw [hq]
  exact withdrawWaiting_of_no_kind (ne_of_hasKinds h (by simp))

/-- A BEACON that replaces the close BEACON stands where that stood. -/
theorem replaceCloseBeacon_of_atMostSlow {q : List Slot} (h : atMostSlow q) {now : Time} {close : Bool}
    (hu : u.queue = q ++ [Slot.fresh now (.beacon close)]) :
    u.replaceCloseBeacon.queue = q ++ [Slot.fresh u.now (.beacon false)] := by
  have hnone : ∀ sl ∈ q, sl.kind ≠ .beacon := by
    obtain ⟨-, hkinds⟩ := h
    exact ne_of_hasKinds hkinds (by simp)
  have hfresh : (Slot.fresh now (.beacon close)).kind = .beacon := rfl
  have hslot : slotOf .beacon u.queue = some (Slot.fresh now (.beacon close)) := by
    have hq : q.find? (fun sl => sl.kind == .beacon) = none := by simpa [slotOf] using slotOf_eq_none.2 hnone
    simp [slotOf, hu, List.find?_append, hq, hfresh]
  have hfree : freeSlot .beacon u.queue = q := by
    have hq : q.filter (fun sl => sl.kind != .beacon) = q :=
      List.filter_eq_self.2 fun sl hm => by simpa using hnone sl hm
    rw [freeSlot, hu, List.filter_append, hq]
    simp [hfresh]
  unfold State.replaceCloseBeacon
  rw [hslot]
  dsimp only
  rw [if_neg (by simp [Slot.fresh]), hfree]
  exact enqueue_beacon_of_atMostSlow h _ _

/-- The BEACON of a station that had an empty queue is in it at the end of the command (R154). -/
theorem lookAfter_carries_ordinary {q : List Slot} (h : atMostSlow q) {now : Time}
    (hu : u.queue = q ++ [Slot.fresh now (.beacon false)]) (hexpired : u.table.lowestExpired = none) {b : State}
    (hb : b.queue = []) : carries (u.lookAfter b false).queue (.beacon false) := by
  have ⟨hlen, _⟩ := h
  have hsub := lookAfter_subset (u := u) (b := b) (by rw [hu]; exact hasKinds_beacon h _ _)
    (by rw [hu]; simpa using hlen) hexpired hb
  exact ⟨Slot.fresh now (.beacon false), hsub (by simp [hu]), rfl⟩

theorem closeSettled_carries (hc : c.queue = []) (hlost : c.ring.lost = false)
    (hexpired : c.table.lowestExpired = none) {b : State} (hb : b.queue = []) :
    carries (((c.closeAsked.giveNotices true).settleCommon.replaceCloseBeacon).lookAfter b false).queue
      (.beacon false) := by
  have hslow : atMostSlow c.closeEntered.queue := atMostSlow_of_entered hc (closeEntered_queue c)
  have hasked : c.closeAsked.queue =
      c.closeEntered.queue ++ [Slot.fresh c.closeChecking.now (.beacon true)] := by
    unfold State.closeAsked
    rw [standingLost_of_kept (by simpa using hlost)]
    have hqueue : c.closeChecking.queue = c.closeEntered.queue := by simp
    rw [← hqueue] at hslow ⊢
    exact enqueue_beacon_of_atMostSlow hslow _ _
  have hheard := giveNotices_of_kinds (u := c.closeAsked) (by rw [hasked]; exact hasKinds_beacon hslow _ _)
  have hsettled : (c.closeAsked.giveNotices true).settleCommon.queue =
      c.closeEntered.queue ++ [Slot.fresh c.closeChecking.now (.beacon true)] := by simpa [hheard] using hasked
  exact lookAfter_carries_ordinary hslow (replaceCloseBeacon_of_atMostSlow hslow hsettled) (by simpa using hexpired) hb

theorem loneEnd_carries (hc : c.queue = []) (hexpired : c.table.lowestExpired = none) {b : State}
    (hb : b.queue = []) : carries (c.loneEnd.lookAfter b false).queue (.beacon false) := by
  have hslow : atMostSlow c.enterMember.settleCommon.queue :=
    atMostSlow_of_entered hc (by simpa using enterMember_queue c)
  have hasked := enqueue_beacon_of_atMostSlow hslow c.enterMember.settleCommon.now false
  have hheard := giveNotices_of_kinds (u := c.enterMember.settleCommon.enqueue (.beacon false))
    (by simp only [State.enqueue, withQueue_queue, hasked]; exact hasKinds_beacon hslow _ _)
  refine lookAfter_carries_ordinary hslow (hheard.trans hasked) ?_ hb
  simpa [State.loneEnd] using hexpired

end

end Sys2Proof.Machine
end

section
/-! ENGINE_RUN_COMPLETE (R34 to R42, R59 to R62, R86, R88, R89, R104, R160). -/

namespace Sys2Proof.Machine

section
variable {s c u v : State} {r : Run}

/-- The state in which the run `r` has been completed at its moment (R40; log 4). -/
def State.runDone (s : State) (r : Run) : State := (s.reach r.due).completeRun r

theorem exec_engineRunComplete_of_run (hlow : s.resetLow = false) (hr : s.engine.run = some r) :
    exec .engineRunComplete s = .next (((s.runDone r).runEnds r.work).lookAfter s false) := by
  simp only [exec, execEngineRunComplete, hr, outOfReset_of_released hlow]
  rfl

@[simp] theorem runDone_frame (s : State) (r : Run) :
    (s.runDone r).now = max s.now r.due ∧ (s.runDone r).resetLow = s.resetLow ∧
    (s.runDone r).csnHigh = s.csnHigh ∧ (s.runDone r).loader = s.loader ∧ (s.runDone r).line = s.line ∧
    (s.runDone r).queue = s.queue ∧ (s.runDone r).ring = s.ring ∧ (s.runDone r).grant = s.grant ∧
    (s.runDone r).recount = s.recount ∧ (s.runDone r).station = s.station ∧ (s.runDone r).port = s.port ∧
    (s.runDone r).events = s.events ∧ (s.runDone r).pending = s.pending := by
  simp [State.runDone, State.reach]

theorem runDone_table (s : State) (r : Run) : (s.runDone r).table = (s.completeRun r).table ∧
    (s.runDone r).engine = (s.completeRun r).engine := ⟨rfl, rfl⟩

theorem runDone_member? (s : State) (r : Run) (n : StationNo) : (s.runDone r).table.member? n =
    (s.table.member? n).map (Member.entitled r.result.found n) := completeRun_member? s r n

/-- A run's result changes no reservation and no demand: no ghost comes to be expired (R26). -/
theorem runDone_lowestExpired (h : ∀ k, s.table.isGhost k = false) :
    (s.runDone r).table.lowestExpired = none := by
  refine List.find?_eq_none.2 fun n _ => ?_
  have hnone : (s.runDone r).table.ghost? n = none := by
    have hentry := completeRun_entryAt s r n
    have hghost := h n
    unfold Table.isGhost Table.ghost? at hghost
    unfold Table.ghost?
    rw [runDone_table s r |>.1, hentry]
    cases he : s.table.entryAt n <;> simp_all
  simp [Table.expired, hnone]

/-- The entry that a run leaves has the entitlement now recorded, and is otherwise as it was (R40). -/
theorem runDone_entryAt (s : State) (r : Run) (n : StationNo) : (s.runDone r).table.entryAt n =
    match s.table.entryAt n with
    | .member m => .member { m with
        entitlement := (((s.runDone r).table.member? n).map Member.entitlement).getD 0 }
    | e => e := by
  have hentry := completeRun_entryAt s r n
  rw [runDone_member?, runDone_table s r |>.1, hentry]
  cases he : s.table.entryAt n with
  | member m =>
    have hm : s.table.member? n = some m := member?_eq_some.2 he
    simp [hm, Member.entitled]
  | ghost g => rfl
  | absent => rfl

/-! ### The end of a close, as the command leaves it (R86, R88, R89, R160) -/

/-- A recount is asked for by LOST alone. -/
theorem closeEnd_requested (h : c.takesPart)
    (hunconfirmed : ∀ n m, c.table.member? n = some m → m.confirmed = false) (b : State) :
    (c.closeEnd.lookAfter b false).recount.requested = (c.recount.requested || c.ring.lost) := by
  rcases closeEnd_cases hunconfirmed with hend | hend <;> rw [hend] <;> simp [closeAsked_recount h]

/-- With other members the station is in CHECK and sends a close BEACON. -/
theorem closeEnd_checks (h : c.takesPart) (hother : ∃ k m, k ≠ c.own ∧ c.table.member? k = some m ∧
    m.confirmed = false) (b : State) :
    (c.closeEnd.lookAfter b false).station = (if c.station.state = .listen then c.station.joined else c.station) ∧
    (c.closeEnd.lookAfter b false).recount = { c.recount with
      phase := .check, target := none, checkTimer := some (c.after c.tCheck)
      requested := c.recount.requested || c.ring.lost } ∧
    (queueOk c.queue → c.queue.length ≤ 1 → carries (c.closeEnd.lookAfter b false).queue (.beacon true)) := by
  obtain ⟨k, m, hk, hm, hunconfirmed⟩ := hother
  rw [closeEnd_of_other hk hm hunconfirmed]
  exact ⟨by simp, by simpa using closeAsked_recount h, fun hq hlen => closeHeard_carries hq hlen b false⟩

/-- A station alone settles at once. -/
theorem closeEnd_settles (h : c.takesPart) (halone : ∀ k, k ≠ c.own → c.table.member? k = none) (b : State) :
    c.settlesAt (c.closeEnd.lookAfter b false) ∧ (c.closeEnd.lookAfter b false).events.flagSet .recountSettled ∧
    (c.closeEnd.lookAfter b false).recount.target = none ∧
    (queueOk c.queue → noCloseBeacon (c.closeEnd.lookAfter b false).queue) ∧
    (c.closeEnd.lookAfter b false).station =
      { (if c.station.state = .listen then c.station.joined else c.station) with
        beaconTimer := (c.closeEnd.lookAfter b false).station.beaconTimer } ∧
    (c.queue = [] → c.ring.lost = false → c.table.lowestExpired = none → b.queue = [] →
      carries (c.closeEnd.lookAfter b false).queue (.beacon false)) := by
  rw [closeEnd_of_alone halone]
  refine ⟨settlesAt_of (u := c.closeAsked.giveNotices true) ⟨c.closeAsked.recount, by simp⟩ (by simp)
      (by simp) (by simp),
    by simp [settleCommon_flagSet], by simp [closeAsked_recount h],
    fun hq => closeSettled_noCloseBeacon hq b false, by simp,
    fun hq hlost hexpired hb => closeSettled_carries hq hlost hexpired hb⟩

theorem giveNotices_true_keeps_flag {e : Event} (h : u.events.flagSet e) :
    (u.giveNotices true).events.flagSet e := by
  have hgive : u.giveNotices true = u.clearBackoff.noticeChanged.lookYield := rfl
  rw [hgive]
  exact lookYield_keeps_flag (by simpa using h)

/-- So does a station that has formed a group alone (R104). -/
theorem loneEnd_settles (c b : State) :
    c.settlesAt (c.loneEnd.lookAfter b false) ∧ (c.loneEnd.lookAfter b false).events.flagSet .recountSettled ∧
    (c.loneEnd.lookAfter b false).recount.requested = c.recount.requested ∧
    (c.loneEnd.lookAfter b false).station = { c.station.joined with
      beaconTimer := (c.loneEnd.lookAfter b false).station.beaconTimer } := by
  have hend : c.loneEnd = (c.enterMember.settleCommon.enqueue (.beacon false)).giveNotices true := rfl
  rw [hend]
  exact ⟨settlesAt_of (u := c.enterMember) ⟨c.recount, by simp⟩ (by simp) (by simp) (by simp),
    by simpa using giveNotices_true_keeps_flag (by simp [settleCommon_flagSet]), by simp, by simp⟩

/-! ### What the command leaves -/

@[simp] theorem runDone_config (s : State) (r : Run) : (s.runDone r).config = s.config ∧
    (s.runDone r).own = s.own := by
  simp [State.config, State.own]

theorem runDone_yieldJudged (h : (s.runDone r).yieldJudged v) : s.yieldJudged v := by
  simpa [State.yieldJudged] using h

theorem runDone_asksFor {cause : Cause} (h : (s.runDone r).asksFor v cause) : s.asksFor v cause := by
  simpa [State.asksFor, State.leaveQueued] using h

theorem runDone_settlesAt (h : (s.runDone r).settlesAt v) : s.settlesAt v := by
  simpa [State.settlesAt] using h

/-- Members are those of before the run, confirmed or not (R40). -/
theorem runDone_member {n : StationNo} {m : Member} (h : s.table.member? n = some m) :
    (s.runDone r).table.member? n = some (m.entitled r.result.found n) := by
  rw [runDone_member?, h]
  rfl

theorem runDone_unconfirmed (h : ∀ n m, s.table.member? n = some m → m.confirmed = false) :
    ∀ n m, (s.runDone r).table.member? n = some m → m.confirmed = false := by
  intro n m hm
  rw [runDone_member?, Option.map_eq_some_iff] at hm
  obtain ⟨o, ho, rfl⟩ := hm
  exact h n o ho

/-- How a close ends (R86, R88, R89, R160). -/
theorem engineRun_closes (hunconfirmed : r.work = .close → ∀ n m, s.table.member? n = some m → m.confirmed = false)
    (hwork : r.work = .close) (h : s.takesPart) :
    let t := ((s.runDone r).runEnds r.work).lookAfter s false
    (s.ring.lost = true → s.asksFor t .lost) ∧
    (s.ring.lost = false → t.recount.requested = s.recount.requested) ∧
    ((∃ k m, k ≠ s.own ∧ s.table.member? k = some m ∧ m.confirmed = false) →
      t.station = (if s.station.state = .listen then s.station.joined else s.station) ∧
      t.recount = { s.recount with
        phase := .check, target := none, checkTimer := t.recount.checkTimer
        requested := t.recount.requested } ∧
      t.recount.checkTimer = some (t.now + ms (2 ^ s.config.windowExp.toNat)) ∧
      (queueOk s.queue → s.queue.length ≤ 1 → carries t.queue (.beacon true))) ∧
    ((∀ k, k ≠ s.own → s.table.member? k = none) →
      s.settlesAt t ∧ t.events.flagSet .recountSettled ∧ t.recount.target = none ∧
      (queueOk s.queue → noCloseBeacon t.queue) ∧
      t.station = { (if s.station.state = .listen then s.station.joined else s.station) with
        beaconTimer := t.station.beaconTimer } ∧
      (s.queue = [] → s.ring.lost = false → (∀ k, s.table.isGhost k = false) →
        carries t.queue (.beacon false))) := by
  have hend : (s.runDone r).runEnds r.work = (s.runDone r).closeEnd := by rw [hwork]; rfl
  rw [hend]
  dsimp only
  have htakes : (s.runDone r).takesPart := by simpa [State.takesPart] using h
  have hopen := runDone_unconfirmed (r := r) (hunconfirmed hwork)
  refine ⟨fun hlost => runDone_asksFor (closeEnd_asksFor htakes (by simpa using hlost) hopen s false),
    fun hlost => ?_, fun hother => ?_, fun halone => ?_⟩
  · simpa [hlost] using closeEnd_requested htakes hopen s
  · obtain ⟨k, m, hk, hm, hm'⟩ := hother
    obtain ⟨hstation, hrecount, hcarries⟩ := closeEnd_checks htakes
      ⟨k, _, by simpa using hk, runDone_member hm, hm'⟩ s
    refine ⟨by simpa using hstation, by rw [hrecount]; simp, ?_, by simpa using hcarries⟩
    have hnow : ((s.runDone r).closeEnd.lookAfter s false).now = (s.runDone r).now := by simp
    rw [hrecount, hnow]
    simp [State.after, State.tCheck]
  · obtain ⟨hsettles, hflag, htarget, hnone, hstation, hcarries⟩ := closeEnd_settles htakes
      (fun k hk => by simp [runDone_member?, halone k (by simpa using hk)]) s
    exact ⟨runDone_settlesAt hsettles, hflag, htarget, by simpa using hnone, by simpa using hstation,
      fun hq hlost hghost => hcarries (by simpa using hq) (by simpa using hlost) (runDone_lowestExpired hghost) hq⟩

/-- How a lone formation ends (R104). -/
theorem engineRun_forms (hwork : r.work = .loneFormation) :
    let t := ((s.runDone r).runEnds r.work).lookAfter s false
    s.settlesAt t ∧ t.events.flagSet .recountSettled ∧ t.recount.requested = s.recount.requested ∧
    t.station = { s.station.joined with beaconTimer := t.station.beaconTimer } ∧
    (s.queue = [] → (∀ k, s.table.isGhost k = false) → carries t.queue (.beacon false)) := by
  have hend : (s.runDone r).runEnds r.work = (s.runDone r).loneEnd := by rw [hwork]; rfl
  rw [hend]
  obtain ⟨hsettles, hflag, hrequested, hstation⟩ := loneEnd_settles (s.runDone r) s
  exact ⟨runDone_settlesAt hsettles, hflag, by simpa using hrequested, by simpa using hstation,
    fun hq hghost => loneEnd_carries (by simpa using hq) (runDone_lowestExpired hghost) hq⟩

end

/-- Settles O49: the result of the run is that of its passes (`runSplit_of_runReads`), and each way in which a run
ends leaves what `State.runEnded` says of it. -/
theorem runsShareTheBudgetByWeight : Obligations.RunsShareTheBudgetByWeight := by
  intro s r hlow hrun hreads hlen hweight hunconfirmed
  have hended : (s.runDone r).runEnded (((s.runDone r).runEnds r.work).lookAfter s false) :=
    (runEnds_runEnded _ _ fun hwork => runDone_unconfirmed (hunconfirmed hwork)).lookAfter s false
  have hexec := exec_engineRunComplete_of_run hlow hrun
  obtain ⟨⟨hnow, -⟩, ⟨htable, hengine, hring⟩, ⟨happlied, hdemand, hcutoff, hbackoff⟩, ⟨hseen, hshared⟩, hcounters,
    hjudged, hunjudged⟩ := hended
  obtain ⟨hpasses, hshort, hlong⟩ := result_bounds hreads
  obtain ⟨hcapped, htotal⟩ := completeRun_shares hreads hweight
  obtain ⟨hsum, -⟩ := completeRun_sums (r := r) hlen
  obtain ⟨hdone, hdoneEngine⟩ := runDone_table s r
  refine ⟨_, hexec, by simp [State.sameBeside], ?_, ?_, ?_, ⟨r.result.duration * ticksPerUs, ?_, ?_, ?_⟩, ?_, ?_,
    ?_, ?_, ?_, hbackoff, ?_, ?_, ?_, ?_, ?_, ?_, ?_, ?_, ?_, ?_, ?_, ?_, ?_, ?_⟩
  · rw [htable]; rfl
  · rw [hengine]; rfl
  · rw [hengine, hdoneEngine]; simpa using hpasses
  · change 6 ≤ r.result.duration * 2; omega
  · change r.result.duration * 2 ≤ 1248; omega
  · rw [hnow]; simp [Run.due]
  · rw [htable, hdone]; exact hcapped
  · rw [htable, hdone]; exact htotal
  · simpa using happlied
  · simpa using hdemand
  · simpa using hcutoff
  · simpa using hring
  · rw [htable, hdone]; exact hsum
  · rw [htable, hdone]; exact completeRun_totalDemand
  · rw [htable]; rfl
  · rw [htable]; exact runDone_entryAt s r
  · rw [htable, hdone]; exact completeRun_sharedOut hreads hweight
  · exact fun hw => runDone_yieldJudged (hjudged hw)
  · intro hw
    simpa using hunjudged hw
  · rw [hshared]
    exact (dOwn_of_table htable (by simp)).symm
  · simpa using hcounters
  · rw [hseen]
    exact (noticeNow_of_table htable (by simp)).symm
  · rintro (hwork | hwork) <;> simp [hwork, State.runEnds]
  · exact engineRun_closes hunconfirmed
  · exact fun hwork _ => engineRun_forms hwork

end Sys2Proof.Machine
end

section
/-! Recounts that the host and the timers ask for: LEAVE, CHECK_TIMER_EXPIRY and GUARD_TIMER_EXPIRY (R72, R75, R90,
R92). -/

namespace Sys2Proof.Machine

/-! ### The RECOUNT asked for, as a frame of its own (R72, R145, R146) -/

/-- A RECOUNT asked for of a queue that holds none joins it as a new frame: a queue within its slots has room for
it. -/
theorem fresh_mem_enqueue_recount {q : List Slot} (now : Time) (x : Half) (c : Cause) (h : queueSound q)
    (hnone : slotOf .recount q = none) : Slot.fresh now (.recount x c) ∈ enqueue now (.recount x c) q := by
  have hslot : slotOf (Payload.recount x c).kind q = none := hnone
  unfold enqueue
  rw [hslot]
  dsimp only
  split
  · simp
  · cases hd : displaced (.recount x c) q with
    | none => exact absurd hd (displaced_of_high h (Nat.le_of_not_lt ‹_›) (by simp [Payload.standing]))
    | some d => simp

/-- No withdrawal of a CLAIM takes a RECOUNT. -/
theorem mem_withdrawWaiting_claim {u : State} {sl : Slot} (hm : sl ∈ u.queue) (hkind : sl.kind = .recount) :
    sl ∈ (u.withdrawWaiting .claim).queue :=
  List.mem_filter.2 ⟨hm, decide_eq_true fun hw => by simp [hkind] at hw⟩

theorem fresh_mem_requestRecount {u : State} (c : Cause) (h : queueSound u.queue)
    (hnone : slotOf .recount u.queue = none) :
    Slot.fresh u.now (.recount u.nextTarget (if u.leaveQueued then .leave else c)) ∈ (u.requestRecount c).queue := by
  have hmem := fresh_mem_enqueue_recount u.now u.nextTarget (if u.leaveQueued then .leave else c) h hnone
  unfold State.requestRecount
  dsimp only
  split
  · exact hmem
  · exact mem_withdrawWaiting_claim (u := (u.enqueue _).withRecount _) hmem rfl

/-- The look at the standing conditions leaves the slot of a RECOUNT as it is (R146). -/
theorem mem_lookAfter_recount {u : State} {sl : Slot} (b : State) (freed : Bool) (h : queueSound u.queue)
    (hm : sl ∈ u.queue) (hkind : sl.kind = .recount) : sl ∈ (u.lookAfter b freed).queue := by
  have hclosed : LookClosed fun v => queueSound v.queue ∧ sl ∈ v.queue := by
    refine ⟨fun v p ⟨hv, hmem⟩ hp =>
        ⟨queueSound_enqueue _ _ hv, mem_enqueue_of_recount _ hv hmem hkind (kind_of_wants hp).1⟩,
      fun v k hk ⟨hv, hmem⟩ => ⟨queueSound_withdrawWaiting k hv, List.mem_filter.2 ⟨hmem, ?_⟩⟩,
      fun v hv => hv⟩
    rcases hk with rfl | rfl <;> simp [hkind]
  exact (lookAfter_induction hclosed ⟨h, hm⟩ b freed).2

/-! ### LEAVE (R92, R179) -/

/-- A LEAVE that can be taken (R168, R170). -/
theorem exec_leave_of_collecting {s : State} (hc : s.collecting) : exec .leave s = .next
    (if s.station.state ≠ .member then s.answer 0 .state []
    else if s.leaveQueued then s.answer 0 .noEffect []
    else if s.recount.phase = .none ∧ s.grant.applied = 0 ∧ s.gOwn = 0 then
      ((s.requestRecount .leave).lookAfter s false).answer 0 .ok []
    else s.answer 0 .state []) := congrArg Host.Outcome.next (if_pos hc)

/-- Settles O24: the three rows exclude each other, and the RECOUNT of the first is the one of `requestRecount`, which
the look at the standing conditions leaves in the queue. -/
theorem leaveRequestsARecount : Obligations.LeaveRequestsARecount := by
  intro s hc
  have hexec := exec_leave_of_collecting hc
  refine ⟨fun hsettled hA hg hleave hsound => ?_, fun hmember hleave => ?_, fun hstate => ?_⟩
  · rw [if_neg (not_not_intro hsettled.1), if_neg hleave, if_pos ⟨hsettled.2, hA, hg⟩] at hexec
    obtain ⟨hsound', hcarries⟩ := requestRecount_carries .leave hsound
    rw [ite_self] at hcarries
    refine ⟨_, hexec, ?_, fun hnone => ?_, fun hnew => ?_, by simp [State.answer], by simp⟩
    · exact lookAfter_carries_recount s false rfl hsound' hcarries
    · have hmem := fresh_mem_requestRecount .leave hsound hnone
      rw [ite_self] at hmem
      exact ⟨_, mem_lookAfter_recount s false hsound' hmem rfl, rfl, rfl, rfl⟩
    · exact lookAfter_noneWaits_claim s false (by simp [State.claimHeld])
        (requestRecount_noneWaits_of_new .leave hnew)
  · rw [hexec, if_neg (not_not_intro hmember), if_pos hleave]
    rfl
  · rw [hexec]
    by_cases hmember : s.station.state = .member
    · obtain ⟨hleave, hout⟩ := hstate.resolve_left (not_not_intro hmember)
      rw [if_neg (not_not_intro hmember), if_neg hleave, if_neg hout]
      rfl
    · rw [if_pos hmember]
      rfl

/-! ### The pending cause that still stands at the guard's end (R75) -/

/-- A moment within the last `n` milliseconds is a moment that is held, no further back (R69). -/
theorem olderThan_eq_false {now : Time} {n : Nat} {o : Option Time} :
    olderThan now n o = false ↔ ∃ x, o = some x ∧ now - x ≤ ms n := by
  cases o <;> simp [olderThan]

theorem someSilent_iff (s : State) :
    s.someSilent ↔ ∃ n m, n ≠ s.own ∧ s.table.member? n = some m ∧ m.silent = true := by
  simp only [State.someSilent, List.any_eq_true, mem_stations, true_and, Bool.and_eq_true, decide_eq_true_eq,
    Option.any_eq_true, exists_and_left]

/-- The state in which the guard has ended, before anything is asked for (R75). -/
def State.guardOver (s : State) : State :=
  s.withRecount { s.recount with guardTimer := none, causes := ⟨false, false, false⟩ }

theorem guardEnds_eq (s : State) : s.guardEnds = s.standingCause.elim s.guardOver s.guardOver.requestRecount := by
  unfold State.guardEnds
  cases s.standingCause <;> rfl

theorem exec_guardTimerExpiry_of_running {s : State} {t : Time} (hlow : s.resetLow = false)
    (ht : s.recount.guardTimer = some t) :
    exec .guardTimerExpiry s = .next ((s.reach t).guardEnds.lookAfter s false) := by
  simp only [exec, execGuardTimerExpiry, outOfReset_of_released hlow, ht]

theorem exec_checkTimerExpiry_of_running {s : State} {t : Time} (hlow : s.resetLow = false)
    (ht : s.recount.checkTimer = some t) :
    exec .checkTimerExpiry s = .next
      ((((s.reach t).withRecount { s.recount with checkTimer := none }).giveCause .silence).lookAfter s false) := by
  simp only [exec, execCheckTimerExpiry, outOfReset_of_released hlow, ht]

/-- A recount that the guard's end asks for (R72, R75). -/
theorem guardOver_asksFor (s : State) (t : Time) (c : Cause) :
    s.asksFor (((s.reach t).guardOver.requestRecount c).lookAfter s false) c :=
  requestRecount_asksFor c s false (by simp [State.guardOver]) fun hsound =>
    ⟨by simpa [State.guardOver] using hsound, leaveQueued_of_queue (by simp [State.guardOver])⟩

/-- What the guard's end leaves, whatever it asks for. -/
theorem guardEnds_leaves (s : State) (t : Time) :
    let u := (s.reach t).guardEnds.lookAfter s false
    s.sameBeside u ∧ u.engine = s.engine ∧ u.ring.entries = s.ring.entries ∧ u.now = max s.now t ∧
    u.recount = { s.recount with
      guardTimer := none, causes := ⟨false, false, false⟩, requested := u.recount.requested } ∧
    u.table = s.table ∧ u.grant = s.grant ∧ u.station = s.station ∧ u.events = s.events := by
  have hrecount : (s.reach t).guardEnds.recount = { s.recount with
      guardTimer := none, causes := ⟨false, false, false⟩
      requested := (s.reach t).guardEnds.recount.requested } := by
    rw [guardEnds_eq]
    cases (s.reach t).standingCause <;> simp [State.guardOver]
  refine ⟨by simp [State.sameBeside], by simp, by simp, by simp [State.reach], ?_, by simp, by simp, by simp, by simp⟩
  simpa using hrecount

/-- Settles O50: CHECK_TIMER_EXPIRY in CHECK gives a cause that is asked for at once, and GUARD_TIMER_EXPIRY asks for
the cause that `State.standingCause` picks at the guard's moment. -/
theorem checkAndGuardTimersRequestRecounts : Obligations.CheckAndGuardTimersRequestRecounts := by
  intro s t hlow
  refine ⟨fun ht hmember hcheck => ?_, fun ht => ?_⟩
  · have hworking : ((s.reach t).withRecount { s.recount with checkTimer := none }).working := by
      simpa [State.working, hcheck] using hmember
    have hgive := giveCause_of_working hworking .silence
    rw [if_neg (by simp [hcheck])] at hgive
    refine ⟨_, exec_checkTimerExpiry_of_running hlow ht, ?_⟩
    rw [hgive]
    have hasks : s.asksFor ((((s.reach t).withRecount { s.recount with checkTimer := none }).requestRecount
        .silence).lookAfter s false) .silence :=
      requestRecount_asksFor _ s false (by simp) fun hsound => ⟨by simpa using hsound, leaveQueued_of_queue (by simp)⟩
    exact ⟨by simp [State.sameBeside], by simp, by simp, by simp [State.reach], by simp, hasks, by simp [hcheck],
      by simp⟩
  · intro mismatch merge silence
    have hstranger : merge ↔ s.recount.causes.merge = true ∧ (s.reach t).strangerHeard :=
      and_congr_right' olderThan_eq_false.symm
    have hsilent : silence ↔ s.recount.causes.silence = true ∧ (s.reach t).someSilent :=
      and_congr_right' (someSilent_iff (s.reach t)).symm
    have hasks : ∀ c, (s.reach t).standingCause = some c →
        s.asksFor ((s.reach t).guardEnds.lookAfter s false) c := by
      intro c hc
      rw [guardEnds_eq, hc]
      exact guardOver_asksFor s t c
    obtain ⟨hbeside, hengine, hring, hnow, hrecount, htable, hgrant, hstation, hevents⟩ := guardEnds_leaves s t
    refine ⟨_, exec_guardTimerExpiry_of_running hlow ht, hbeside, hengine, hring, hnow, hrecount, htable,
      hgrant, hstation, hevents, fun h => ?_, fun h h' => ?_, fun h h' h'' => ?_, fun h h' h'' => ?_⟩
    · exact hasks _ (if_pos h)
    · exact hasks _ ((if_neg h).trans (if_pos (hstranger.1 h')))
    · exact hasks _ ((if_neg h).trans ((if_neg (mt hstranger.2 h')).trans (if_pos (hsilent.1 h''))))
    · have hnone : (s.reach t).standingCause = none :=
        (if_neg h).trans ((if_neg (mt hstranger.2 h')).trans (if_neg (mt hsilent.2 h'')))
      rw [guardEnds_eq, hnone]
      simp [State.guardOver]

end Sys2Proof.Machine
end

section
/-! Entry to ISOLATED (R64, R67, R99, R109, R111), and the end of a window: its timer, and the close (R82 to R85). -/

namespace Sys2Proof.Machine

/-! ### Entry to ISOLATED (R64, R109, R111) -/

section
variable {s t v : State}

/-- What an entry to ISOLATED leads to depends on Grant Control, the configuration, the snapshot, the deferral and the
event flags alone. -/
theorem isolatedFrom_of_same (h : v.isolatedFrom t) (hgrant : v.grant = s.grant) (hloader : v.loader = s.loader)
    (htable : v.table.cleared = s.table.cleared) (hdeferral : v.ring.deferral = s.ring.deferral)
    (hevents : v.events = s.events) : s.isolatedFrom t := by
  unfold State.isolatedFrom State.clearedFrom State.loweredToNothing at h ⊢
  simp only [State.config, hgrant, hloader, hdeferral, hevents] at h ⊢
  obtain ⟨hstation, ⟨hcleared, hblocks⟩, hrest⟩ := h
  exact ⟨hstation, ⟨hcleared.trans htable, hblocks⟩, hrest⟩

/-- Entry to ISOLATED: the clear, the event, the lower request of R64, and with A at 0 the isolation hold. -/
theorem enterIsolated_isolatedFrom (s : State) : s.isolatedFrom s.enterIsolated := by
  have hlower := isolateLower_loweredToNothing ((s.enter .isolated).raise .isolated)
  have hflag := isolateLower_keeps_flag ((s.enter .isolated).raise .isolated) .isolated
    ((raise_flagSet _ _ _).2 (.inl rfl))
  have hqueue : s.enterIsolated.queue ⊆ flush s.queue := by
    simpa [State.enterIsolated] using isolateLower_queue_subset ((s.enter .isolated).raise .isolated)
  refine ⟨?_, ⟨?_, ?_, ?_, ?_, fun sl hsl => flush_slots (hqueue hsl), ?_⟩, ?_, ?_⟩
  · by_cases hA : s.grant.applied = 0 <;>
      simp [State.enterIsolated, State.noticeZero, Station.reset, State.after, State.tIsoHold, State.config, hA]
  · simp [State.enterIsolated, Table.cleared]
  · simp [State.enterIsolated]
  · simp [State.enterIsolated]
  · simp [State.enterIsolated, Ring.cleared]
  · simp [State.enterIsolated]
  · simpa [State.enterIsolated] using hflag
  · simpa [State.loweredToNothing, State.enterIsolated, raise_flagSet, State.config] using hlower

theorem requestIsolated_of_takesPart (h : s.takesPart) : s.requestIsolated = s.enterIsolated := if_pos h

@[simp] theorem enterIsolated_recount (s : State) : s.enterIsolated.recount = Recount.reset := by
  simp [State.enterIsolated]

/-- Only the entry raises events; it counts none. -/
theorem enterIsolated_counters (s : State) : s.enterIsolated.events.counters = s.events.counters := by
  have hisolate : ∀ u : State, u.isolateLower.events.counters = u.events.counters := by
    intro u
    unfold State.isolateLower
    split
    · rfl
    · split
      · rfl
      · dsimp only
        split <;> rfl
  simp [State.enterIsolated, hisolate]

end

/-! ### The table that a close rebuilds (R84, R85) -/

section
variable {s : State} {n : StationNo}

/-- Of reports of different stations, the one found for a station is the one that it made. -/
theorem find?_report {l : List ReportRecord} (h : (l.map ReportRecord.station).Nodup) {r : ReportRecord}
    (hr : r ∈ l) : (l.find? fun o => o.station == r.station) = some r := by
  cases hfind : l.find? fun o => o.station == r.station with
  | none => simpa using List.find?_eq_none.1 hfind r hr
  | some o =>
    have hstation : o.station = r.station := by simpa using List.find?_some hfind
    rw [List.inj_on_of_nodup_map h (List.mem_of_find?_eq_some hfind) hr hstation]

theorem closedEntry_own (s : State) : s.closedEntry s.own =
    .member (newMember s.now s.ownReportValues.weight s.ownReportValues.demand s.ownReportValues.grant) := if_pos rfl

theorem closedEntry_of_report (h : (s.recount.reports.map ReportRecord.station).Nodup) {r : ReportRecord}
    (hr : r ∈ s.recount.reports) (hown : r.station ≠ s.own) :
    s.closedEntry r.station = .member (newMember s.now r.weight r.demand r.grant) := by
  unfold State.closedEntry
  rw [if_neg hown, find?_report h hr]

theorem closedEntry_of_no_report (hown : n ≠ s.own) (hn : ∀ r ∈ s.recount.reports, r.station ≠ n) :
    s.closedEntry n = (s.table.entryAt n).afterClose (s.after s.tGhost) := by
  have hfind : (s.recount.reports.find? fun r => r.station == n) = none :=
    List.find?_eq_none.2 fun r hr => by simpa using hn r hr
  unfold State.closedEntry
  rw [if_neg hown, hfind]

@[simp] theorem rebuild_table (s : State) : s.rebuild.table = s.closedTable := rfl

theorem rebuild_entryAt (s : State) (n : StationNo) : s.rebuild.table.entryAt n = s.closedEntry n := entryAt_map rfl n

/-- The run that a close starts works on the rebuilt table (R31, R32). -/
theorem rebuild_run (s : State) : ∃ r, s.rebuild.engine.run = some r ∧ s.rebuild.runReads r ∧ r.work = .close ∧
    r.started = s.now := startRun_run _ _

/-! ### The close (R82, R83) -/

/-- The state in which a close begins: it waits no longer, and the window timer has stopped. -/
def State.closeBegun (s : State) : State :=
  s.withRecount { s.recount with closeWaiting := false, windowTimer := none }

theorem exec_closeBegin_of_waiting (hlow : s.resetLow = false) (hclose : s.recount.closeWaiting = true)
    (hrun : s.engine.run = none) (hsnap : s.table.snapPending = false) : exec .closeBegin s = .next
      (if s.recount.ownSent = true then s.closeBegun.rebuild else s.closeBegun.requestIsolated) := by
  simp only [exec, execCloseBegin, outOfReset_of_released hlow]
  rw [if_pos ⟨hclose, hrun, hsnap⟩]
  rfl

theorem exec_windowTimerExpiry_of_running {x : Time} (hlow : s.resetLow = false)
    (hx : s.recount.windowTimer = some x) : exec .windowTimerExpiry s = .next (s.reach x).windowEnds := by
  simp only [exec, execWindowTimerExpiry, outOfReset_of_released hlow, hx]

end

/-- Settles O48: the rebuilt table holds `State.closedEntry` for each station, by its three cases, and a close
without the own report is an entry to ISOLATED. -/
theorem closesRebuildTheTable : Obligations.ClosesRebuildTheTable := by
  intro s hlow
  refine ⟨fun x hx => exec_windowTimerExpiry_of_running hlow hx, fun hclose hrun hsnap => ⟨?_, ?_⟩⟩
  · intro hsent o w ho hw hnodup
    have hexec := exec_closeBegin_of_waiting hlow hclose hrun hsnap
    rw [if_pos hsent] at hexec
    have hown := closedEntry_own s.closeBegun
    have hvalues : s.closeBegun.ownReportValues = o := by simp [State.ownReportValues, State.closeBegun, ho]
    rw [hvalues] at hown
    have hepoch : s.closeBegun.rebuild.table.epoch = w := by
      simp [State.closedTable, State.closeEpoch, State.closeBegun, hw]
    have hghost : ∀ n, n ≠ s.own → (∀ r ∈ s.recount.reports, r.station ≠ n) → s.closeBegun.rebuild.table.entryAt n =
        (s.table.entryAt n).afterClose (s.now + ms (2 ^ (s.config.silenceExp.toNat + 1) +
          2 ^ s.config.yieldExp.toNat)) := fun n hn hr =>
      (rebuild_entryAt _ n).trans (closedEntry_of_no_report hn hr)
    obtain ⟨r, hr, ⟨hshare, hremaining, -, hrotor, -⟩, hwork, hstarted⟩ := rebuild_run s.closeBegun
    have hbudget : s.closeBegun.rebuild.budget = s.budget := budget_of_loader (by simp [State.closeBegun])
    rw [hepoch] at hrotor
    rw [hbudget] at hremaining
    refine ⟨_, hexec, by simp [State.sameOutside, State.sameBeside, State.closeBegun],
      (rebuild_entryAt _ _).trans hown,
      fun r hr hne => (rebuild_entryAt _ _).trans (closedEntry_of_report hnodup hr hne),
      fun n hn hreport => ⟨fun m hm hpos => ?_, fun m hm hzero => ?_, fun g hg => ?_, fun habsent => ?_⟩,
      hepoch, rfl, rfl, rfl, rfl, rfl, rfl, rfl, rfl, by simp [State.closeBegun], by simp [State.closeBegun],
      by simp [State.closeBegun], by simp [State.closeBegun], r, hr, hwork, hstarted, hrotor, hremaining, hshare⟩
    · rw [hghost n hn hreport, hm]
      exact if_pos hpos
    · rw [hghost n hn hreport, hm]
      exact if_neg (by omega)
    · rw [hghost n hn hreport, hg]
      rfl
    · rw [hghost n hn hreport, habsent]
      rfl
  · intro hsent hpart
    have hexec := exec_closeBegin_of_waiting hlow hclose hrun hsnap
    rw [if_neg (by simp [hsent]), requestIsolated_of_takesPart (s := s.closeBegun) hpart] at hexec
    exact ⟨_, hexec, by simp [State.sameOutside, State.sameBeside, State.closeBegun],
      isolatedFrom_of_same (enterIsolated_isolatedFrom _) rfl rfl rfl rfl rfl⟩

end Sys2Proof.Machine
end

section
/-! Frames other than a RECOUNT that are taken in phase WINDOW (R18, R80, R81). -/

namespace Sys2Proof.Machine

/-! ### The report list (R81) -/

/-- A recorded report stands in place of the one of its station. -/
theorem mem_recordReport {r o : ReportRecord} {l : List ReportRecord} :
    o ∈ recordReport r l ↔ o = r ∨ o ∈ l ∧ o.station ≠ r.station := by
  unfold recordReport
  split
  · rename_i hany
    obtain ⟨p, hp, hstation⟩ := List.any_eq_true.1 hany
    rw [List.mem_map]
    constructor
    · rintro ⟨q, hq, rfl⟩
      split
      · exact .inl rfl
      · exact .inr ⟨hq, ‹_›⟩
    · rintro (rfl | ⟨ho, hne⟩)
      · exact ⟨p, hp, if_pos (by simpa using hstation)⟩
      · exact ⟨o, ho, if_neg hne⟩
  · rename_i hany
    have hnone : ∀ p ∈ l, p.station ≠ r.station := fun p hp hstation =>
      hany (List.any_eq_true.2 ⟨p, hp, by simp [hstation]⟩)
    rw [List.mem_append, List.mem_singleton]
    exact ⟨fun h => h.elim (fun ho => .inr ⟨ho, hnone o ho⟩) .inl,
      fun h => h.elim .inr fun ho => .inl ho.1⟩

/-! ### A frame judged in WINDOW (R18, R80) -/

section
variable {s : State} {f : Frame} {rest : List RingEntry}

@[simp] theorem noted_recount_window (s : State) (f : Frame) (rest : List RingEntry) :
    (s.noted f rest).recount.target = s.recount.target ∧
    (s.noted f rest).recount.reports = s.recount.reports ∧
    (s.noted f rest).recount.ownSent = s.recount.ownSent := by
  rw [noted_recount]; simp

/-- With a window open a frame heard is nothing new to a station that listens (R13). -/
theorem noted_station_of_window (f : Frame) (rest : List RingEntry) (h : s.recount.phase = .window) :
    (s.noted f rest).station = s.station := by
  rw [noted_station, if_neg (by simp [h])]

theorem dispose_of_window (h : s.recount.phase = .window) (own : Bool) (hkind : f.kind ≠ .recount) :
    s.dispose f own = s.judgeInWindow f := by
  unfold State.dispose
  unfold Frame.kind at hkind
  cases hb : f.body <;> simp_all [Body.kind]

/-- A frame taken in WINDOW is noted, judged, and the standing conditions looked at. -/
theorem exec_takeFrame_of_window {own : Bool} (h : s.takes ⟨f, own⟩ rest) (hp : s.takesPart) (ha : s.admits f own)
    (hphase : s.recount.phase = .window) (hkind : f.kind ≠ .recount) :
    exec .takeFrame s = .next (((s.noted f rest).judgeInWindow f).lookAfter s false) := by
  have hnoted : (s.noted f rest).recount.phase = .window := by simpa using hphase
  rw [exec_takeFrame_of_admits h hp ha, dispose_of_window hnoted own hkind]

/-- What taking a frame in WINDOW leaves, however it is judged. -/
theorem judgeInWindow_leaves (hphase : s.recount.phase = .window) :
    let t := ((s.noted f rest).judgeInWindow f).lookAfter s false
    s.sameOutside t ∧ t.ring.entries = rest ∧ t.grant = s.grant ∧ t.station = s.station ∧ t.engine = s.engine ∧
    t.table.sum = s.table.sum ∧ t.table.tsn = s.table.tsn := by
  simp [State.sameOutside, State.sameBeside, noted_station_of_window f rest hphase, updateMember_sum_of_grant,
    Member.heardAt]

/-- A table frame or a BEACON is stale in WINDOW (R18). -/
theorem judgeInWindow_of_table (h : f.kind = .beacon ∨ isTableKind f.kind) : s.judgeInWindow f = s.countStale := by
  unfold State.judgeInWindow
  unfold isTableKind Frame.kind at h
  cases hb : f.body <;> simp_all [Body.kind]

@[simp] theorem countStale_values (s : State) : s.countStale.events = { s.events with
    counters := { s.events.counters with staleFrames := min 65535 (s.events.counters.staleFrames + 1) } } := rfl

/-! ### A REPORT by its sender and target (R80) -/

variable {r : ReportRecord} {w target : Half}

@[simp] theorem windowReport_kept (s : State) (r : ReportRecord) (target : Half) :
    (s.windowReport r target).recount.phase = s.recount.phase ∧
    (s.windowReport r target).recount.target = s.recount.target := by
  unfold State.windowReport
  (repeat' split) <;> simp_all

theorem windowReport_of_other (hw : s.recount.target = some w) (hown : r.station ≠ s.own) :
    s.windowReport r w = s.withRecount { s.recount with reports := recordReport r s.recount.reports } := by
  simp only [State.windowReport, hw, if_neg hown, if_true]

theorem windowReport_of_own (hw : s.recount.target = some w) (hown : r.station = s.own) :
    s.windowReport r w = s.withRecount { s.recount with ownSent := true } := by
  simp only [State.windowReport, hw, if_pos hown, if_true]

/-- A REPORT for a later target has no effect if another station made it; all else for another target is stale. -/
theorem windowReport_of_other_target (hw : s.recount.target = some w) (hne : target ≠ w) :
    s.windowReport r target = if r.station ≠ s.own ∧ laterEpoch target w then s else s.countStale := by
  unfold State.windowReport
  rw [hw]
  dsimp only
  by_cases hown : r.station = s.own
  · rw [if_pos hown, if_neg hne, if_neg fun h => h.1 hown]
  · rw [if_neg hown, if_neg hne]
    exact if_congr (and_iff_right hown).symm rfl rfl

end

/-- Settles O47: a REPORT is recorded, sets own-report-sent, is stale or has no effect by the rows of
`windowReport`, and every table frame and BEACON is stale. -/
theorem windowReportsAreRecorded : Obligations.WindowReportsAreRecorded := by
  intro s f own rest w ht hp ha hphase hw
  obtain ⟨houtside, hring, hgrant, hstation, hengine, hsum, htsn⟩ := judgeInWindow_leaves (f := f) (rest := rest) hphase
  refine ⟨fun target weight d g x hbody => ?_, fun hkind => ?_⟩
  · have hexec := exec_takeFrame_of_window ht hp ha hphase (by simp [Frame.kind, hbody, Body.kind])
    have hjudge : (s.noted f rest).judgeInWindow f =
        (s.noted f rest).windowReport ⟨f.sender, weight.toNat, d.toNat, g.toNat⟩ target := by
      simp only [State.judgeInWindow, hbody]
    have hnoted : (s.noted f rest).recount.target = some w := by simpa using hw
    have hown : (s.noted f rest).own = s.own := by simp [State.own]
    refine ⟨_, hexec, houtside, hring, hgrant, ?_, ?_, hstation, hengine, hsum, htsn, ?_⟩
    · simpa [hjudge] using hphase
    · simpa [hjudge] using hw
    rw [hjudge]
    refine ⟨?_, ?_, fun hearlier hle => ?_, fun hlater hle => ?_⟩
    · rintro rfl hne
      rw [windowReport_of_other hnoted (by rwa [hown])]
      simp only [lookAfter_frame, withRecount_recount, noted_recount_window, and_true]
      refine ⟨mem_recordReport.2 (.inl rfl), fun r hr hr' => (mem_recordReport.1 hr).resolve_right fun h => h.2 hr',
        fun r hr => mem_recordReport.trans ?_⟩
      exact ⟨fun h => (h.resolve_left fun heq => hr (heq ▸ rfl)).1, fun h => .inr ⟨h, hr⟩⟩
    · rintro rfl heq
      rw [windowReport_of_own hnoted (by rwa [hown])]
      simp
    · rw [windowReport_of_other_target hnoted (ne_of_later hearlier).symm,
        if_neg fun h => not_later_of_earlier hearlier hle h.2]
      simp
    · rw [windowReport_of_other_target hnoted (ne_of_later hlater), hown]
      by_cases hsender : f.sender = s.own
      · rw [if_neg fun h => h.1 hsender]
        simp [hsender]
      · rw [if_pos ⟨hsender, hlater, hle⟩]
        simp [hsender]
  · have hexec := exec_takeFrame_of_window ht hp ha hphase (by rcases hkind with h | h | h | h | h <;> simp [h])
    refine ⟨_, hexec, houtside, hring, hsum, htsn, hgrant, ?_⟩
    rw [judgeInWindow_of_table hkind]
    simp

end Sys2Proof.Machine
end

section
/-! The Transmit Queue at a window entry (R78, R79): what the withdrawals leave in it, and the REPORT that is queued. -/

namespace Sys2Proof.Machine

/-! ### A withdrawal (R152) -/

/-- A slot left by a withdrawal of kind `k` stood there before, or is ON_LINE and of that kind, with nothing to
follow. -/
theorem mem_withdraw {k : Kind} {q : List Slot} {sl : Slot} (h : sl ∈ withdraw k q) :
    sl ∈ q ∧ sl.kind ≠ k ∨ sl.kind = k ∧ sl.state = .onLine ∧ sl.followOn = none := by
  obtain ⟨o, ho, rfl⟩ := List.mem_map.1 h
  obtain ⟨hm, hkept⟩ := List.mem_filter.1 ho
  by_cases hk : o.kind = k
  · rw [if_pos hk]
    have hline : o.state = .onLine := by
      by_contra hw
      exact of_decide_eq_true hkept ⟨hk, hw⟩
    exact .inr ⟨hk, hline, rfl⟩
  · rw [if_neg hk]
    exact .inl ⟨hm, hk⟩

theorem queueSound_withdraw {q : List Slot} (k : Kind) (h : queueSound q) : queueSound (withdraw k q) := by
  obtain ⟨⟨hlen, hkinds, hrange⟩, hone⟩ := queueSound_sublist h
    (List.filter_sublist (l := q) (p := fun sl : Slot => decide (¬ (sl.kind = k ∧ sl.waiting))))
  have hkept : ∀ sl : Slot,
      (if sl.kind = k then { sl with finishing := true, followOn := none } else sl).kind = sl.kind ∧
      (if sl.kind = k then { sl with finishing := true, followOn := none } else sl).state = sl.state := by
    intro sl
    split <;> exact ⟨rfl, rfl⟩
  refine ⟨⟨by simpa [withdraw, updateSlot] using hlen, ?_, fun sl hm => ?_⟩, ?_⟩
  · simpa [withdraw, updateSlot, Function.comp_def, fun sl => (hkept sl).1] using hkinds
  · obtain ⟨o, ho, rfl⟩ := List.mem_map.1 hm
    obtain ⟨hattempts, hbackoff, hfollow⟩ := hrange o ho
    split
    · exact ⟨hattempts, hbackoff, fun p hp => by cases hp⟩
    · exact ⟨hattempts, hbackoff, hfollow⟩
  · rw [withdraw, updateSlot, List.filter_map, List.length_map]
    simpa [Function.comp_def, fun sl => (hkept sl).2] using hone

/-! ### A queue with REPORT and SLOW alone to come (R78) -/

/-- A slot of a window's queue: REPORT, SLOW, or a frame that finishes on the line with nothing to follow. -/
def Slot.forWindow (sl : Slot) : Prop :=
  sl.kind = .report ∨ sl.kind = .slow ∨ sl.state = .onLine ∧ sl.followOn = none

theorem waiting_forWindow {sl : Slot} (h : sl.forWindow) (hwait : sl.state ≠ .onLine) :
    sl.kind = .report ∨ sl.kind = .slow :=
  h.imp_right fun h => h.resolve_right fun hline => hwait hline.1

/-- A queue within its slots, of such slots. -/
def windowQueue (q : List Slot) : Prop := queueSound q ∧ ∀ sl ∈ q, sl.forWindow

theorem windowQueue_withdrawWaiting {u : State} (k : Kind) (h : windowQueue u.queue) :
    windowQueue (u.withdrawWaiting k).queue :=
  ⟨queueSound_withdrawWaiting k h.1, fun sl hm => h.2 sl (List.filter_subset_self _ hm)⟩

theorem windowQueue_enqueue {q : List Slot} {p : Payload} (now : Time) (h : windowQueue q)
    (hp : p.kind = .report ∨ p.kind = .slow) : windowQueue (enqueue now p q) := by
  refine ⟨queueSound_enqueue now p h.1, fun sl hm => ?_⟩
  rcases mem_enqueue hm with hm | hkind
  · exact h.2 sl hm
  · rcases hp with hp | hp
    · exact .inl (hkind.trans hp)
    · exact .inr (.inl (hkind.trans hp))

/-- Three slots are the most: one on the line, and a REPORT and a SLOW that wait. -/
theorem windowQueue_length {q : List Slot} (h : windowQueue q) : q.length < 4 := by
  obtain ⟨⟨⟨-, hkinds, -⟩, hone⟩, hslots⟩ := h
  have hwaiting : ∀ k ∈ (q.filter fun sl => !(sl.state == .onLine)).map Slot.kind, k ∈ [Kind.report, .slow] := by
    intro k hk
    obtain ⟨sl, hsl, rfl⟩ := List.mem_map.1 hk
    obtain ⟨hm, hwait⟩ := List.mem_filter.1 hsl
    simpa using waiting_forWindow (hslots sl hm) (by simpa using hwait)
  have hnodup : ((q.filter fun sl => !(sl.state == .onLine)).map Slot.kind).Nodup :=
    hkinds.sublist (List.filter_sublist.map _)
  have htwo := (hnodup.subperm hwaiting).length_le
  have hsum := (List.filter_append_perm (fun sl : Slot => sl.state == .onLine) q).length_eq
  simp only [List.length_append, List.length_map, List.length_cons, List.length_nil] at hsum htwo
  omega

/-- No RECOUNT waits in it, nor follows on (R73). -/
theorem not_waits_recount_of_windowQueue {u : State} (h : windowQueue u.queue) : ¬ u.waits .recount := by
  intro hany
  obtain ⟨sl, hm, hsl⟩ := List.any_eq_true.1 hany
  obtain ⟨hkind, hwait⟩ := of_decide_eq_true hsl
  rcases h.2 sl hm with hk | hk | ⟨hline, hfollow⟩
  · simp [hk] at hkind
  · simp [hk] at hkind
  · simp [hline, hfollow] at hwait

/-- A REPORT asked for of it is carried. -/
theorem carries_enqueue_report {q : List Slot} {p : Payload} (now : Time) (h : windowQueue q)
    (hp : p.kind = .report) : carries (enqueue now p q) p :=
  carries_enqueue_of_room now h.1.1 (windowQueue_length h) (by rintro rfl; cases hp)

/-- A SLOW asked for takes no place from a REPORT: there is room. -/
theorem carries_report_enqueue_slow {q : List Slot} {r : Payload} (now : Time) (h : windowQueue q)
    (hr : r.kind = .report) (hc : carries q r) : carries (enqueue now .slow q) r := by
  obtain ⟨sl, hm, hsl⟩ := hc
  have hkind : sl.kind = .report := by rw [← kind_of_carried h.1 hm, hsl, hr]
  refine ⟨sl, ?_, hsl⟩
  unfold enqueue
  split
  · exact List.mem_map.2 ⟨sl, hm, if_neg (by simp [hkind, Payload.kind])⟩
  · rw [if_pos (windowQueue_length h)]
    exact List.mem_append_left _ hm

/-- In an unsettled station the look at the standing conditions leaves such a queue such a one, with its REPORT. -/
theorem lookAfter_windowQueue {u : State} {r : Payload} (h : ¬ u.settled) (hq : windowQueue u.queue)
    (hr : r.kind = .report) (hc : carries u.queue r) (b : State) (freed : Bool) :
    windowQueue (u.lookAfter b freed).queue ∧ carries (u.lookAfter b freed).queue r :=
  lookAfter_of_unsettled (P := fun q => windowQueue q ∧ carries q r) h ⟨hq, hc⟩
    (fun _ k hk ⟨hv, hcv⟩ => ⟨windowQueue_withdrawWaiting k hv,
      carries_filter_of_kind hv.1 (by rw [hr]; rcases hk with rfl | rfl <;> simp) hcv⟩)
    (fun _ ⟨hv, hcv⟩ => ⟨windowQueue_enqueue _ hv (.inr rfl), carries_report_enqueue_slow _ hv hr hcv⟩) b freed

/-! ### The withdrawals of a window entry (R78) -/

/-- Of the kinds in `l` nothing is to come: their frames finish on the line. -/
def onlyFinishing (q : List Slot) (l : List Kind) : Prop :=
  ∀ sl ∈ q, sl.kind ∈ l → sl.state = .onLine ∧ sl.followOn = none

theorem onlyFinishing_withdraw {q : List Slot} {l : List Kind} (k : Kind) (h : onlyFinishing q l) :
    onlyFinishing (withdraw k q) (k :: l) := by
  intro sl hm hk
  rcases mem_withdraw hm with ⟨hm, hne⟩ | ⟨-, hline⟩
  · exact h sl hm ((List.mem_cons.1 hk).resolve_left hne)
  · exact hline

/-- After step 5 of R78 the queue is a window's. -/
theorem withdrawForWindow_windowQueue {u : State} (h : queueSound u.queue) :
    windowQueue u.withdrawForWindow.queue := by
  have hnone : onlyFinishing u.queue [] := fun sl _ hk => by cases hk
  have hfinishing := onlyFinishing_withdraw .recount (onlyFinishing_withdraw .beacon (onlyFinishing_withdraw .clear
    (onlyFinishing_withdraw .release (onlyFinishing_withdraw .claim (onlyFinishing_withdraw .demand hnone)))))
  have hsound := queueSound_withdraw .recount (queueSound_withdraw .beacon (queueSound_withdraw .clear
    (queueSound_withdraw .release (queueSound_withdraw .claim (queueSound_withdraw .demand h)))))
  refine ⟨hsound, fun sl hm => ?_⟩
  have hsl := hfinishing sl hm
  unfold Slot.forWindow
  cases hk : sl.kind <;> simp_all

end Sys2Proof.Machine
end

section
/-! TAKE_FRAME of a RECOUNT (R72, R73, R77 to R79, R91). -/

namespace Sys2Proof.Machine

section
variable {s u : State} {f : Frame} {rest : List RingEntry} {target w : Half}

/-! ### How a RECOUNT is judged (R77) -/

theorem judgeRecount_of_window (hphase : u.recount.phase = .window) (hw : u.recount.target = some w) :
    u.judgeRecount target = if target = w then u.absorb
      else if laterEpoch target w then u.windowEntry target else u.countStale := by
  simp only [State.judgeRecount, hphase, hw]

theorem judgeRecount_of_no_window (hphase : u.recount.phase ≠ .window) : u.judgeRecount target =
    if u.station.state = .listen ∨ laterEpoch target u.table.epoch then u.windowEntry target else u.countStale := by
  unfold State.judgeRecount
  cases hp : u.recount.phase with
  | window => exact absurd hp hphase
  | none => rfl
  | check => rfl

/-- An epoch that is not later is the same or an earlier one (R3). -/
theorem not_later_of_le {x y : Half} (h : (y - x).toNat ≤ 32767) : ¬ laterEpoch x y := by
  rintro ⟨hpos, hle⟩
  bv_omega

/-! ### Requested, once a RECOUNT has been taken (R73) -/

/-- Requested alone is changed. -/
def State.setRequested (s : State) (b : Bool) : State := s.withRecount { s.recount with requested := b }

@[simp] theorem setRequested_frame (s : State) (b : Bool) :
    (s.setRequested b).now = s.now ∧ (s.setRequested b).resetLow = s.resetLow ∧
    (s.setRequested b).csnHigh = s.csnHigh ∧ (s.setRequested b).loader = s.loader ∧
    (s.setRequested b).line = s.line ∧ (s.setRequested b).queue = s.queue ∧ (s.setRequested b).ring = s.ring ∧
    (s.setRequested b).table = s.table ∧ (s.setRequested b).engine = s.engine ∧
    (s.setRequested b).grant = s.grant ∧ (s.setRequested b).station = s.station ∧
    (s.setRequested b).port = s.port ∧ (s.setRequested b).events = s.events ∧
    (s.setRequested b).pending = s.pending := by
  simp [State.setRequested]

@[simp] theorem setRequested_recount (s : State) (b : Bool) :
    (s.setRequested b).recount = { s.recount with requested := b } := rfl

theorem setRequested_self (s : State) : s.setRequested s.recount.requested = s := rfl

theorem recountBack_eq (u : State) :
    u.recountBack = u.setRequested (u.recount.requested && decide (u.waits .recount)) := by
  unfold State.recountBack
  by_cases hwaits : u.waits .recount
  · rw [if_pos hwaits, decide_eq_true hwaits, Bool.and_true, setRequested_self]
  · rw [if_neg hwaits, decide_eq_false hwaits, Bool.and_false]
    rfl

/-- The own loopback clears requested unless a further own RECOUNT waits; all else is as the judgement leaves it. -/
theorem takeRecount_eq (u : State) (target : Half) (own : Bool) : u.takeRecount target own =
    (u.judgeRecount target).setRequested ((u.judgeRecount target).recount.requested &&
      (!own || decide ((u.judgeRecount target).waits .recount))) := by
  cases own with
  | false =>
    rw [Bool.not_false, Bool.true_or, Bool.and_true, setRequested_self]
    rfl
  | true => exact recountBack_eq _

/-! ### The window opened (R78, R79) -/

/-- The Recount Controller's items at a window entry (R78). -/
def State.windowItems (s : State) (target : Half) : Recount :=
  { s.recount with
    count := s.recount.count + 1
    phase := .window
    target := some target
    reports := []
    ownSent := false
    windowTimer := some (s.after s.tWindow)
    checkTimer := none
    guardTimer := none
    causes := ⟨false, false, false⟩
    closeWaiting := false
    requested := s.recount.requested && !decide (s.holds .recount)
    ownReport := some ⟨s.weight, s.grant.demand, s.grant.applied⟩ }

/-- Below four windows in a row the window opens (R91). -/
theorem windowEntry_of_below (target : Half) (h : u.recount.count < 4) : u.windowEntry target =
    (((((u.withRecount (u.windowItems target)).withStation { u.station with
      beaconTimer := none, listenTimer := none, listenWaiting := false }).withdrawForWindow).enqueue
        (u.reportPayload target)).raise .recountStarted).countRecount := by
  unfold State.windowEntry
  rw [if_neg (Nat.not_le.2 h)]
  simp [State.windowItems, State.reportPayload, State.weight, State.config, State.digest]

theorem windowEntry_of_limit (hp : u.takesPart) (h : 4 ≤ u.recount.count) : u.windowEntry target = u.enterIsolated :=
  (if_pos h).trans (if_pos hp)

theorem windowEntry_values (target : Half) (h : u.recount.count < 4) :
    (u.windowEntry target).recount = u.windowItems target ∧
    (u.windowEntry target).station =
      { u.station with beaconTimer := none, listenTimer := none, listenWaiting := false } ∧
    (u.windowEntry target).events = { u.events with
      flags := u.events.flags ||| Event.recountStarted.bit
      counters := { u.events.counters with recounts := min 65535 (u.events.counters.recounts + 1) } } ∧
    (u.windowEntry target).grant = u.grant ∧ (u.windowEntry target).table = u.table ∧
    (u.windowEntry target).engine = u.engine := by
  rw [windowEntry_of_below target h]
  simp [State.countRecount, State.withCounters, State.raise, bump]

theorem windowEntry_queue (target : Half) (h : u.recount.count < 4) (hq : queueSound u.queue) :
    windowQueue (u.windowEntry target).queue ∧ carries (u.windowEntry target).queue (u.reportPayload target) := by
  have hwithdrawn := withdrawForWindow_windowQueue (u := (u.withRecount (u.windowItems target)).withStation
    { u.station with beaconTimer := none, listenTimer := none, listenWaiting := false }) hq
  rw [windowEntry_of_below target h]
  simp only [countRecount_frame, raise_frame]
  exact ⟨windowQueue_enqueue _ hwithdrawn (.inl rfl), carries_enqueue_report _ hwithdrawn rfl⟩

/-! ### The RECOUNT absorbed (R73, R77) -/

/-- `absorb` asks whether a RECOUNT is QUEUED or in BACKOFF; none is just when none waits. -/
theorem noneWaits_iff (q : List Slot) (k : Kind) :
    noneWaits q k ↔ ¬ (q.any fun sl => decide (sl.kind = k ∧ sl.waiting)) = true := by
  simp [noneWaits]

theorem absorb_noneWaits (u : State) : noneWaits u.absorb.queue .recount := by
  unfold State.absorb
  split
  · exact noneWaits_withdrawWaiting u .recount
  · exact (noneWaits_iff _ _).2 ‹_›

theorem absorb_recount (u : State) : u.absorb.recount = { u.recount with
    requested := u.recount.requested && decide (noneWaits u.queue .recount) } := by
  unfold State.absorb
  by_cases hany : (u.queue.any fun sl => decide (sl.kind = .recount ∧ sl.waiting)) = true
  · have hnot : ¬ noneWaits u.queue .recount := fun h => (noneWaits_iff _ _).1 h hany
    rw [if_pos hany, decide_eq_false hnot, Bool.and_false]
    rfl
  · have hnone : noneWaits u.queue .recount := (noneWaits_iff _ _).2 hany
    rw [if_neg hany, decide_eq_true hnone, Bool.and_true]

theorem absorb_of_noneWaits (h : noneWaits u.queue .recount) : u.absorb = u := if_neg ((noneWaits_iff _ _).1 h)

/-- With none QUEUED or in BACKOFF a RECOUNT waits just as a follow-on value (R73). -/
theorem waits_of_noneWaits (h : noneWaits u.queue .recount) : decide (u.waits .recount) =
    u.queue.any fun sl => sl.kind == .recount && sl.followOn.isSome := by
  rw [Bool.eq_iff_iff, decide_eq_true_iff, State.waits, List.any_eq_true, List.any_eq_true]
  refine exists_congr fun sl => and_congr_right fun hm => ?_
  simp only [decide_eq_true_eq, Bool.and_eq_true, beq_iff_eq]
  exact and_congr_right fun hk => or_iff_right (not_not_intro (h sl hm hk))

/-- The look at the standing conditions asks for no RECOUNT. -/
theorem lookAfter_noneWaits_recount (b : State) (freed : Bool) (h : noneWaits u.queue .recount) :
    noneWaits (u.lookAfter b freed).queue .recount := by
  have hclosed : LookClosed fun v => noneWaits v.queue .recount :=
    ⟨fun v p hv hp => noneWaits_enqueue hv (kind_of_wants hp).1, fun v k _ hv => noneWaits_filter hv _,
      fun v hv => hv⟩
  exact lookAfter_induction hclosed h b freed

theorem notApplied_absorb {t : State} {n : StationNo} (h : s.notApplied t n rest) : s.notApplied t.absorb n rest :=
  notApplied_of_same h (by simp [State.sameOutside, State.sameBeside]) (by simp) (by simp) (by simp) (by simp)

theorem notApplied_setRequested {t : State} {n : StationNo} (h : s.notApplied t n rest) (b : Bool) :
    s.notApplied (t.setRequested b) n rest :=
  notApplied_of_same h (by simp [State.sameOutside, State.sameBeside]) (by simp) (by simp) (by simp) (by simp)

/-! ### The command (R10, R77) -/

/-- A RECOUNT is noted and judged, requested follows R73, and the standing conditions are looked at. -/
theorem exec_takeFrame_of_recount {own : Bool} {c : Cause} (h : s.takes ⟨f, own⟩ rest) (hp : s.takesPart)
    (ha : s.admits f own) (hbody : f.body = .recount target c) :
    exec .takeFrame s = .next (((s.noted f rest).takeRecount target own).lookAfter s false) := by
  have hdispose : (s.noted f rest).dispose f own = (s.noted f rest).takeRecount target own := by
    simp only [State.dispose, hbody]
  rw [exec_takeFrame_of_admits h hp ha, hdispose]

@[simp] theorem noted_station_state (s : State) (f : Frame) (rest : List RingEntry) :
    (s.noted f rest).station.state = s.station.state := by
  rw [noted_station]; split <;> rfl

/-- What a RECOUNT that opens no window leaves of the Recount Controller. -/
theorem noted_recount_requested (b : Bool) : { (s.noted f rest).recount with requested := b } =
    { s.recount with
      requested := b, highest := (s.noted f rest).recount.highest
      lastNonMember := (s.noted f rest).recount.lastNonMember } := by
  rw [noted_recount]

theorem noted_windowItems (s : State) (f : Frame) (rest : List RingEntry) (target : Half) :
    (s.noted f rest).windowItems target = { s.windowItems target with
      highest := (s.noted f rest).recount.highest
      lastNonMember := (s.noted f rest).recount.lastNonMember } := by
  unfold State.windowItems
  rw [noted_recount]
  simp [State.after, State.tWindow, State.weight, State.config]

theorem not_holds_eq_isNone (s : State) (k : Kind) : (!decide (s.holds k)) = (slotOf k s.queue).isNone := by
  rw [← Option.not_isSome, Bool.decide_eq_true]

/-- A RECOUNT that opens or restarts a window (R78, R79). -/
theorem takeRecount_opens (own : Bool) (hsound : queueSound s.queue) (hcount : s.recount.count < 4)
    (hjudge : (s.noted f rest).judgeRecount target = (s.noted f rest).windowEntry target) :
    let t := ((s.noted f rest).takeRecount target own).lookAfter s false
    s.sameOutside t ∧
      t.recount.phase = .window ∧ t.recount.target = some target ∧
      t.recount.count = s.recount.count + 1 ∧ t.recount.reports = [] ∧ t.recount.ownSent = false ∧
      t.recount.windowTimer = some (s.now + ms (2 ^ s.config.windowExp.toNat)) ∧
      t.recount.checkTimer = none ∧ t.recount.guardTimer = none ∧
      t.recount.causes = ⟨false, false, false⟩ ∧ t.recount.closeWaiting = false ∧
      t.recount.requested = (s.recount.requested && !own && (slotOf .recount s.queue).isNone) ∧
      t.recount.ownReport = some ⟨s.weight, s.grant.demand, s.grant.applied⟩ ∧
      t.station.beaconTimer = none ∧ t.station.listenTimer = none ∧ t.station.state = s.station.state ∧
      carries t.queue (s.reportPayload target) ∧
      (∀ sl ∈ t.queue, sl.state ≠ .onLine → sl.kind = .report ∨ sl.kind = .slow) ∧
      t.events = { s.events with
        flags := s.events.flags ||| Event.recountStarted.bit
        counters := { s.events.counters with
          recounts := min 65535 (s.events.counters.recounts + 1) } } ∧
      t.grant = s.grant ∧ t.table.epoch = s.table.epoch ∧ t.table.tsn = s.table.tsn ∧
      t.engine = s.engine := by
  have hbelow : (s.noted f rest).recount.count < 4 := by simpa using hcount
  have hnoted : queueSound (s.noted f rest).queue := by simpa using hsound
  obtain ⟨hrecount, hstation, hevents, hgrant, htable, hengine⟩ := windowEntry_values target hbelow
  obtain ⟨hqueue, hcarries⟩ := windowEntry_queue target hbelow hnoted
  have hwaits := not_waits_recount_of_windowQueue hqueue
  have hreport : (s.noted f rest).reportPayload target = s.reportPayload target := by
    simp [State.reportPayload, State.weight, State.config, State.digest]
  rw [hreport] at hcarries
  rw [noted_windowItems] at hrecount
  intro t
  have ht : t = (((s.noted f rest).windowEntry target).setRequested
      (((s.noted f rest).windowEntry target).recount.requested && !own)).lookAfter s false := by
    simp only [t, takeRecount_eq, hjudge, decide_eq_false hwaits, Bool.or_false]
  clear_value t
  have hitems : t.recount = { s.windowItems target with
      requested := (s.windowItems target).requested && !own
      highest := (s.noted f rest).recount.highest
      lastNonMember := (s.noted f rest).recount.lastNonMember } := by
    simp only [ht, lookAfter_frame, setRequested_recount, hrecount]
  obtain ⟨⟨-, hslots⟩, hcarried⟩ : windowQueue t.queue ∧ carries t.queue (s.reportPayload target) := by
    rw [ht]
    refine lookAfter_windowQueue ?_ (by simpa using hqueue) rfl (by simpa using hcarries) s false
    simp [State.settled, hrecount, State.windowItems]
  have hframe : s.sameOutside t ∧ t.station = { (s.noted f rest).station with
      beaconTimer := none, listenTimer := none, listenWaiting := false } ∧
      t.events = ((s.noted f rest).windowEntry target).events ∧ t.grant = s.grant ∧
      t.table = (s.noted f rest).table ∧ t.engine = s.engine := by
    rw [ht]
    simp [State.sameOutside, State.sameBeside, hstation, hgrant, htable, hengine]
  obtain ⟨houtside, hstation', hevents', hgrant', htable', hengine'⟩ := hframe
  rw [hitems, hstation', hevents', hevents, htable']
  refine ⟨houtside, rfl, rfl, rfl, rfl, rfl, rfl, rfl, rfl, rfl, rfl, ?_, rfl, rfl, rfl, noted_station_state s f rest,
    hcarried, fun sl hm => waiting_forWindow (hslots sl hm), by simp, hgrant', by simp, by simp, hengine'⟩
  rw [← not_holds_eq_isNone, Bool.and_right_comm]
  rfl

/-- A RECOUNT that would open the fifth window in a row isolates the station (R91). -/
theorem takeRecount_isolates (own : Bool) (hp : s.takesPart) (hcount : 4 ≤ s.recount.count)
    (hjudge : (s.noted f rest).judgeRecount target = (s.noted f rest).windowEntry target) :
    let t := ((s.noted f rest).takeRecount target own).lookAfter s false
    s.sameOutside t ∧ s.isolatedFrom t ∧ t.events.counters = s.events.counters := by
  have hpart : (s.noted f rest).takesPart := by simpa [State.takesPart] using hp
  have hentry := windowEntry_of_limit (target := target) hpart (by simpa using hcount)
  have hcleared : (s.noted f rest).table.cleared = s.table.cleared := by
    rw [noted_table, updateMember_eq]
    rfl
  have htaken : (s.noted f rest).takeRecount target own = (s.noted f rest).enterIsolated := by
    have hclear : (s.noted f rest).enterIsolated.recount.requested = false := by simp [Recount.reset]
    rw [takeRecount_eq, hjudge, hentry, hclear, Bool.false_and, ← hclear, setRequested_self]
  rw [htaken, lookAfter_of_not_member _ _ _ (by simp)]
  exact ⟨by simp [State.sameOutside, State.sameBeside],
    isolatedFrom_of_same (enterIsolated_isolatedFrom _) (by simp) (by simp) hcleared (by simp) (by simp),
    by rw [enterIsolated_counters]; simp⟩

/-- A RECOUNT for the window's own target (R73, R77). -/
theorem takeRecount_absorbed (own : Bool) (hphase : s.recount.phase = .window)
    (hw : s.recount.target = some target) :
    let t := ((s.noted f rest).takeRecount target own).lookAfter s false
    s.notApplied t f.sender rest ∧ t.events = s.events ∧
        t.station = s.station ∧ noneWaits t.queue .recount ∧
        t.recount = { s.recount with
          requested := t.recount.requested, highest := t.recount.highest
          lastNonMember := t.recount.lastNonMember } ∧
        t.recount.requested = (s.recount.requested && decide (noneWaits s.queue .recount) &&
          (!own || s.queue.any fun sl => sl.kind == .recount && sl.followOn.isSome)) := by
  have hjudge : (s.noted f rest).judgeRecount target = (s.noted f rest).absorb := by
    rw [judgeRecount_of_window (by simpa using hphase) (by simpa using hw), if_pos rfl]
  have hnone := absorb_noneWaits (s.noted f rest)
  rw [takeRecount_eq, hjudge]
  refine ⟨notApplied_lookAfter (notApplied_setRequested (notApplied_absorb (noted_notApplied s f rest)) _) s false,
    by simp, by simp [noted_station_of_window f rest hphase], lookAfter_noneWaits_recount s false hnone, ?_, ?_⟩
  · simp only [lookAfter_frame, setRequested_recount, absorb_recount]
    exact noted_recount_requested _
  · simp only [lookAfter_frame, setRequested_recount, waits_of_noneWaits hnone, absorb_recount, noted_recount_kept,
      noted_frame]
    by_cases hwaits : noneWaits s.queue .recount
    · have habsorb : (s.noted f rest).absorb = s.noted f rest := absorb_of_noneWaits (by simpa using hwaits)
      simp [habsorb]
    · simp [hwaits]

/-- A RECOUNT that is stale (R77). -/
theorem takeRecount_stale (own : Bool) (hstation : (s.noted f rest).station = s.station)
    (hjudge : (s.noted f rest).judgeRecount target = (s.noted f rest).countStale) :
    let t := ((s.noted f rest).takeRecount target own).lookAfter s false
    s.notApplied t f.sender rest ∧
        t.station = s.station ∧
        t.recount = { s.recount with
          requested := t.recount.requested, highest := t.recount.highest
          lastNonMember := t.recount.lastNonMember } ∧
        t.recount.requested = (s.recount.requested && (!own || decide (s.waits .recount))) ∧
        t.events = { s.events with counters := { s.events.counters with
          staleFrames := min 65535 (s.events.counters.staleFrames + 1) } } := by
  rw [takeRecount_eq, hjudge]
  refine ⟨notApplied_lookAfter (notApplied_setRequested (notApplied_countStale (noted_notApplied s f rest)) _) s false,
    by simp [hstation], ?_, by simp, by simp⟩
  simp only [lookAfter_frame, setRequested_recount, countStale_frame]
  exact noted_recount_requested _

end

/-- Settles O46: R77 judges a RECOUNT by its target, and each of the judgements is one of `takeRecount_opens`,
`takeRecount_isolates`, `takeRecount_absorbed` and `takeRecount_stale`. -/
theorem recountsOpenWindows : Obligations.RecountsOpenWindows := by
  intro s f own rest target c ht hp ha hbody hok hone opens isStale
  have hexec := exec_takeFrame_of_recount ht hp ha hbody
  have hepoch : (s.noted f rest).table.epoch = s.table.epoch := by simp
  have hopens : opens → (s.noted f rest).judgeRecount target = (s.noted f rest).windowEntry target := by
    rintro (⟨hphase, hcond⟩ | ⟨hphase, w, hw, hlater⟩)
    · rw [judgeRecount_of_no_window (by simpa using hphase), hepoch, noted_station_state, if_pos hcond]
    · rw [judgeRecount_of_window (by simpa using hphase) (by simpa using hw), if_neg (ne_of_later hlater.1),
        if_pos hlater]
  have hstale : isStale → (s.noted f rest).station = s.station ∧
      (s.noted f rest).judgeRecount target = (s.noted f rest).countStale := by
    rintro (⟨hphase, hmember, hle⟩ | ⟨hphase, w, hw, hearlier, hle⟩)
    · refine ⟨noted_station_of_member f rest hmember, ?_⟩
      rw [judgeRecount_of_no_window (by simpa using hphase), hepoch, if_neg]
      exact fun h => h.elim (by simp [hmember]) (not_later_of_le hle)
    · refine ⟨noted_station_of_window f rest hphase, ?_⟩
      rw [judgeRecount_of_window (by simpa using hphase) (by simpa using hw), if_neg (ne_of_later hearlier).symm,
        if_neg (not_later_of_le hle)]
  refine ⟨fun h hcount => ⟨_, hexec, takeRecount_opens own ⟨hok, hone⟩ hcount (hopens h)⟩,
    fun h hcount => ⟨_, hexec, takeRecount_isolates own hp hcount (hopens h)⟩,
    fun hphase hw => ⟨_, hexec, takeRecount_absorbed own hphase hw⟩, fun h => ?_⟩
  obtain ⟨hstation, hjudge⟩ := hstale h
  exact ⟨_, hexec, takeRecount_stale own hstation hjudge⟩

end Sys2Proof.Machine
end

section
/-! Entries to LISTEN, ISOLATED's hold and BARRED: JOIN (R116), CONFIRM(0) in ISOLATED (R67, R111), and the watch (R110,
R112 to R114). -/

namespace Sys2Proof.Machine

/-! ### The state-entry clear (R99) -/

section
variable {s t u v : State}

theorem enter_clearedFrom (s : State) (x : StationState) : s.clearedFrom (s.enter x) :=
  ⟨rfl, rfl, rfl, rfl, fun _ hsl => flush_slots hsl, rfl⟩

/-- Entry to LISTEN clears, and leaves Grant Control what the host set. -/
theorem enterListen_effects (s : State) : s.clearedFrom s.enterListen ∧
    s.enterListen.grant.demand = s.grant.demand ∧ s.enterListen.grant.applied = s.grant.applied ∧
    s.enterListen.grant.cutoff = s.grant.cutoff ∧ s.enterListen.grant.lower = s.grant.lower :=
  ⟨enter_clearedFrom s .listen, rfl, rfl, rfl, rfl⟩

/-- What the clear leads to depends on the snapshot and the deferral alone. -/
theorem clearedFrom_of_same (h : v.clearedFrom t) (htable : v.table.cleared = s.table.cleared)
    (hdeferral : v.ring.deferral = s.ring.deferral) : s.clearedFrom t := by
  obtain ⟨hcleared, hengine, hrecount, hring, hrest⟩ := h
  exact ⟨hcleared.trans htable, hengine, hrecount, hdeferral ▸ hring, hrest⟩

/-- What R64 makes of the lower request depends on Grant Control, the configuration and the event flags alone. -/
theorem loweredToNothing_of_same (h : v.loweredToNothing t) (hgrant : v.grant = s.grant)
    (hloader : v.loader = s.loader) (hevents : v.events = s.events) : s.loweredToNothing t := by
  simpa [State.loweredToNothing, State.config, hgrant, hloader, hevents] using h

/-! ### JOIN (R116) -/

theorem exec_join_of_collecting (hc : s.collecting) : exec .join s = .next
    (if s.station.state = .parked then s.enterListen.answer 0 .ok [] else s.answer 0 .state []) :=
  congrArg Host.Outcome.next (if_pos hc)

/-! ### CONFIRM(0) in ISOLATED (R67, R111) -/

theorem exec_confirm_of_below {x : Half} (hc : s.collecting) (hloaded : s.loaded) (hx : x.toNat < s.grant.applied) :
    exec (.confirm x) s = .next ((s.confirmed x.toNat).answer 2 .ok (s.confirmed x.toNat).grantData) := by
  simp only [exec, execConfirm, State.taken]
  rw [if_pos hc, if_neg (not_not_intro hloaded), if_pos hx]

theorem satisfyLower_of_met {r : LowerRequest} (hl : u.grant.lower = some r) (h : u.grant.applied ≤ r.target) :
    u.satisfyLower = u.clearLower := by
  simp only [State.satisfyLower, hl, if_pos h]

theorem noticeZero_of_isolated (hstate : u.station.state = .isolated) (hA : u.grant.applied = 0)
    (hhold : u.station.holdTimer = none) :
    u.noticeZero = u.withStation { u.station with holdTimer := some (u.after u.tIsoHold) } :=
  if_pos ⟨hstate, hA, hhold⟩

/-- A falls to 0 in ISOLATED: its request is met, and the hold starts. -/
theorem lowerApplied_zero_of_isolated {r : LowerRequest} (hstate : s.station.state = .isolated)
    (hl : s.grant.lower = some r) (hhold : s.station.holdTimer = none) :
    s.lowerApplied 0 = ((s.withGrant { s.grant with applied := 0, lower := none }).withdrawWaiting .claim).withStation
      { s.station with holdTimer := some (s.after s.tIsoHold) } := by
  have hmet : (s.withGrant { s.grant with applied := 0 }).satisfyLower =
      s.withGrant { s.grant with applied := 0, lower := none } :=
    satisfyLower_of_met (u := s.withGrant { s.grant with applied := 0 }) hl (Nat.zero_le _)
  unfold State.lowerApplied
  dsimp only
  rw [hmet, lookYield_of_not_working _ (by simp [State.working, hstate]),
    noticeZero_of_isolated (by simpa using hstate) (by simp) (by simpa using hhold)]
  rfl

end

/-- Settles O25: JOIN in PARKED is an entry to LISTEN, which keeps what the host set. -/
theorem joinLeavesParkedAlone : Obligations.JoinLeavesParkedAlone := by
  intro s hc
  refine ⟨fun hparked => ?_, fun hparked => ?_⟩
  · obtain ⟨hcleared, hdemand, happlied, hcutoff, hlower⟩ := enterListen_effects s
    refine ⟨s.enterListen.answer 0 .ok [], ?_, rfl, hcleared, hdemand, happlied, hcutoff, hlower, ?_⟩
    · rw [exec_join_of_collecting hc, if_pos hparked]
    · simp [State.answer]
  · rw [exec_join_of_collecting hc, if_neg hparked]
    rfl

/-- Settles O15: the fall of A to 0 is `lowerApplied_zero_of_isolated`; outside MEMBER nothing more is looked at. -/
theorem confirmZeroStartsTheIsolationHold : Obligations.ConfirmZeroStartsTheIsolationHold := by
  intro s r hc hstate hpos hl _ hhold
  have hzero : (0 : Half).toNat = 0 := rfl
  have hexec := exec_confirm_of_below (x := 0) hc ⟨by simp [hstate], by simp [hstate]⟩ (hzero.symm ▸ hpos)
  have hconfirmed : s.confirmed 0 = s.lowerApplied 0 := lookAfter_of_not_member _ _ _ (by simp [hstate])
  rw [hzero, hconfirmed, lowerApplied_zero_of_isolated hstate hl hhold] at hexec
  refine ⟨_, hexec, by simp, by simp, ?_, by simp, ?_⟩
  · simp [State.after, State.tIsoHold]
  · simp [State.sameOutsideGrant]

/-! ### A frame at its arrival in ISOLATED (R110, R132, R156) -/

section
variable {s u : State} {f : Frame} {cells : List Cell}

/-- A valid frame is handed on at its end, and the standing conditions are looked at. -/
theorem exec_frameReceived_of_valid (hlow : s.resetLow = false) (hr : s.receiving)
    (hf : receiveCheck cells = some f) : exec (.frameReceived cells) s =
      .next (((s.activityEnds cells.length).handOn f false).lookAfter s false) := by
  simp only [exec, execFrameReceived, outOfReset_of_released hlow, if_pos hr, hf]

/-- In BUSY the end of an activity leaves the queue alone. -/
theorem activityEnds_queue_of_busy (h : s.line.state = .busy) (n : Nat) : (s.activityEnds n).queue = s.queue := by
  simp [State.activityEnds, State.ensureActivity, State.lineBecomes, h]

/-- Which frames R11 admits is settled by the own number and digest. -/
theorem admits_of_loader (h : u.loader = s.loader) (own : Bool) : u.admits f own ↔ s.admits f own := by
  unfold State.admits State.own State.digest
  rw [h]

theorem not_admits_iff : ¬ s.admits f false ↔ f.sender = s.own ∨ ∃ d, f.body.digest? = some d ∧ d ≠ s.digest := by
  simp only [State.admits, and_true, not_and_or, not_not, not_forall, exists_prop]

theorem watch_of_admits (h : u.admits f false) : u.watch f false = u := by
  obtain ⟨hduplicate, hconflict⟩ := (admits_iff u f false).1 h
  exact if_neg fun hw => hw.2.elim hduplicate hconflict

/-- In ISOLATED a frame that fails the first two checks of R11 bars the station. -/
theorem watch_of_not_admits (hstate : u.station.state = .isolated) (h : ¬ u.admits f false) :
    u.watch f false = u.enterBarred := by
  have hbad : u.duplicate f false ∨ u.conflict f := by
    by_contra hnone
    exact h ((admits_iff u f false).2 (not_or.1 hnone))
  exact (if_pos ⟨hstate, hbad⟩).trans (if_pos (.inr hstate))

theorem handOn_slow (h : f.kind = .slow) : u.handOn f false = u.honourSlow.watch f false := by
  unfold State.handOn
  rw [if_pos h, if_neg Bool.false_ne_true]

/-- With room in the ring a frame is stored before the watch sees it (log 37). -/
theorem handOn_stored (h : f.kind ≠ .slow) (hparked : u.station.state ≠ .parked) (hroom : u.ring.entries.length < 16) :
    u.handOn f false = (u.store f false).watch f false := by
  unfold State.handOn State.offer
  rw [if_neg h, if_neg hparked, if_pos hroom]

/-- Outside MEMBER a frame is stored, and no SLOW asked for (R156, R162). -/
theorem store_of_not_member (h : u.station.state ≠ .member) :
    u.store f false = u.withRing { u.ring with entries := u.ring.entries ++ [⟨f, false⟩] } := if_neg fun hm => h hm.1

/-- A frame that bars the station as the command ends: the clear, the event and the lower request of R64 are those of
the state at its arrival, from which the ring's frames and the deferral may differ. -/
theorem watch_bars (hstate : u.station.state = .isolated) (hbad : ¬ s.admits f false)
    (hloader : u.loader = s.loader) (hgrant : u.grant = s.grant) (hevents : u.events = s.events) (b : State) :
    let t := (u.watch f false).lookAfter b false
    t = u.enterBarred ∧ t.station = { Station.reset with state := .barred } ∧ t.events.flagSet .barred ∧
    u.clearedFrom t ∧ s.loweredToNothing t := by
  have hbarred : (u.watch f false).lookAfter b false = u.enterBarred := by
    rw [watch_of_not_admits hstate (mt (admits_of_loader hloader false).1 hbad),
      lookAfter_of_not_member _ _ _ (by simp)]
  obtain ⟨hcleared, hflag, hlower⟩ := enterBarred_effects u
  rw [hbarred]
  exact ⟨rfl, enterBarred_station u, hflag, hcleared, loweredToNothing_of_same hlower hgrant hloader hevents⟩

end

/-- Settles O35: by the kind of the frame it is honoured or stored first, and by R11's checks for a duplicate and a
conflict the watch then bars the station or leaves it. -/
theorem watchBarsAnIsolatedStation : Obligations.WatchBarsAnIsolatedStation := by
  intro s cells f hlow hbusy htx hf hstate
  have hexec := exec_frameReceived_of_valid hlow ⟨.inr hbusy, htx⟩ hf
  refine ⟨fun hslow hown => ?_, fun hkind hroom hbad => ?_, fun hkind hroom hgood => ?_⟩
  · rw [handOn_slow hslow] at hexec
    obtain ⟨heq, hstation, hflag, hcleared, hlower⟩ := watch_bars (s := s) (f := f)
      (u := (s.activityEnds cells.length).honourSlow) (by simpa using hstate) (not_admits_iff.2 (.inl hown))
      (by simp) (by simp) (by simp) s
    refine ⟨_, hexec, hstation, hflag, ?_, ?_, hlower, by simp, by simp, by simp⟩
    · rw [heq]
      simp [State.enterBarred, Ring.cleared, State.honourSlow, State.after, State.tSlow, State.config]
    · exact clearedFrom_of_same hcleared (by simp) (by rw [heq]; simp [State.enterBarred, Ring.cleared])
  · rw [handOn_stored hkind (by simp [hstate]) (by simpa using hroom)] at hexec
    obtain ⟨-, hstation, hflag, hcleared, hlower⟩ := watch_bars (s := s) (f := f)
      (u := (s.activityEnds cells.length).store f false) (by simpa using hstate) (not_admits_iff.2 hbad)
      (by simp) (by simp) (by simp) s
    exact ⟨_, hexec, hstation, hflag, clearedFrom_of_same hcleared (by simp) (by simp), hlower, by simp, by simp,
      by simp⟩
  · have hadmits : ((s.activityEnds cells.length).store f false).admits f false :=
      (admits_of_loader (s := s) (by simp) false).2 ⟨fun hsame => hgood.1 hsame.1, hgood.2⟩
    rw [handOn_stored hkind (by simp [hstate]) (by simpa using hroom), watch_of_admits hadmits,
      lookAfter_of_not_member _ _ _ (by simp [hstate]), store_of_not_member (by simp [hstate])] at hexec
    exact ⟨_, hexec, by simp, by simp, by simp, by simp, by simp, by simp,
      by simpa using activityEnds_queue_of_busy hbusy _⟩

end Sys2Proof.Machine
end

section
/-! The end of listening (R103): the recount of a station that heard another one, and the group that a station which
heard none forms alone (R25). -/

namespace Sys2Proof.Machine

section
variable {s u : State}

/-! ### The commands (R103) -/

theorem exec_listenTimerExpiry_of_running {t : Time} (hlow : s.resetLow = false)
    (ht : s.station.listenTimer = some t) : exec .listenTimerExpiry s = .next
      ((s.reach t).withStation { s.station with listenTimer := none, listenWaiting := true }) := by
  simp only [exec, execListenTimerExpiry, outOfReset_of_released hlow, ht]

/-- The state in which the end of listening is decided: it waits no longer. -/
def State.listened (s : State) : State := s.withStation { s.station with listenWaiting := false }

theorem exec_endOfListening_of_waiting (hlow : s.resetLow = false) (hwaiting : s.station.listenWaiting = true)
    (hrun : s.engine.run = none) (hsnap : s.table.snapPending = false) : exec .endOfListening s = .next
      (if s.station.heard = true then s.listened.giveCause .join else s.listened.formAlone) := by
  simp only [exec, execEndOfListening, outOfReset_of_released hlow]
  rw [if_pos ⟨hwaiting, hrun, hsnap⟩]
  rfl

/-! ### A recount with cause JOIN (R71, R72) -/

/-- In LISTEN, phase NONE, a JOIN is asked for. -/
theorem giveCause_join (hstate : u.station.state = .listen) (hphase : u.recount.phase = .none) :
    u.giveCause .join = u.requestRecount .join := by
  simp only [State.giveCause, hstate, hphase, if_pos]

/-- What is asked for stands, with no look at the standing conditions after it. -/
theorem requestRecount_asksFor_at_once (c : Cause) (hrequested : u.recount.requested = s.recount.requested)
    (hqueue : u.queue = s.queue) : s.asksFor (u.requestRecount c) c := by
  have hasks := requestRecount_asksFor (s := s) c (u.requestRecount c) false hrequested
    fun hsound => ⟨hqueue ▸ hsound, leaveQueued_of_queue hqueue⟩
  rwa [lookAfter_self] at hasks

theorem queueSound_nil : queueSound [] := ⟨⟨by simp, by simp, by simp⟩, by simp⟩

/-- An empty queue holds the RECOUNT asked for as a new frame. -/
theorem requestRecount_of_empty (c : Cause) (h : u.queue = []) :
    ∃ sl ∈ (u.requestRecount c).queue, sl.payload = .recount u.nextTarget c ∧ sl.state = .queued := by
  have hmem := fresh_mem_requestRecount c (h ▸ queueSound_nil) (by rw [h]; rfl)
  rw [if_neg (by simp [State.leaveQueued, h])] at hmem
  exact ⟨_, hmem, rfl, rfl⟩

/-! ### The group alone (R25, R31, R32) -/

/-- The entry of station `n` in a group alone (R25). -/
def State.loneEntry (u : State) (n : StationNo) : Entry :=
  if n = u.own then .member (newMember u.now u.weight u.grant.demand 0) else .absent

theorem loneTable_entries (u : State) : u.loneTable.entries = stations.map u.loneEntry := rfl

theorem formAlone_entryAt (u : State) (n : StationNo) : u.formAlone.table.entryAt n = u.loneEntry n :=
  entryAt_map (t := u.formAlone.table) (loneTable_entries u) n

/-- A group alone holds no reservation (R5). -/
theorem loneTable_reservations (u : State) : u.loneTable.reservations = 0 := by
  have hzero : ∀ l : List StationNo, sumOf Entry.reserved (l.map u.loneEntry) = 0 := by
    intro l
    induction l with
    | nil => rfl
    | cons n l ih =>
      simp only [sumOf, List.map_cons, List.foldr_cons] at ih ⊢
      rw [ih]
      unfold State.loneEntry
      split <;> rfl
  exact hzero stations

/-- The run that a lone formation starts has the whole budget to share. -/
theorem formAlone_run (u : State) : ∃ r, u.formAlone.engine.run = some r ∧ r.work = .loneFormation ∧
    r.started = u.now ∧ r.remaining = u.budget ∧
    r.share = u.formAlone.table.sharers.filter (fun i => i.demand != 0) := by
  obtain ⟨r, hr, ⟨hshare, hremaining, -, -, -⟩, hwork, hstarted⟩ := startRun_run
    ((((u.withRing { u.ring with lost := false }).withTable u.loneTable).withRecount
      { u.recount with lastNonMember := none }).giveEpoch 1) .loneFormation
  refine ⟨r, hr, hwork, hstarted, ?_, hshare⟩
  rw [hremaining]
  exact congrArg (u.budget - ·) (loneTable_reservations u)

end

/-- Settles O51: the decision is taken by whether the station heard another one, and its two outcomes are
`requestRecount` and `formAlone`. -/
theorem listeningEndsInJoinOrAlone : Obligations.ListeningEndsInJoinOrAlone := by
  intro s hlow
  refine ⟨fun t ht => exec_listenTimerExpiry_of_running hlow ht, fun hwaiting hrun hsnap => ?_⟩
  have hexec := exec_endOfListening_of_waiting hlow hwaiting hrun hsnap
  refine ⟨fun hheard hstate hphase => ?_, fun hheard => ?_⟩
  · rw [if_pos hheard, giveCause_join (u := s.listened) hstate hphase] at hexec
    exact ⟨_, hexec, by simp [State.sameOutside, State.sameBeside, State.listened], by simp [State.listened],
      by simp [State.listened], by simp, requestRecount_asksFor_at_once .join rfl rfl, by simp [State.listened],
      fun hempty => requestRecount_of_empty .join hempty, by simp [State.listened], by simp [State.listened],
      by simp [State.listened]⟩
  · rw [if_neg (by simp [hheard])] at hexec
    have hother : ∀ n, n ≠ s.own → s.listened.formAlone.table.entryAt n = .absent := fun n hn =>
      (formAlone_entryAt s.listened n).trans (if_neg hn)
    exact ⟨_, hexec, by simp [State.sameOutside, State.sameBeside, State.listened],
      (formAlone_entryAt s.listened s.own).trans (if_pos rfl), hother, rfl, rfl, rfl, rfl, rfl, rfl,
      by simp [State.listened], by simp [State.listened], by simp [State.listened], by simp [State.listened],
      formAlone_run s.listened⟩

end Sys2Proof.Machine
end

section
/-! The isolation hold and the ghost timers: the entry to LISTEN (R111), and the CLEAR that an expired ghost asks for
(R26, R27, R146). -/

namespace Sys2Proof.Machine

/-! ### A request that a full queue refuses (R146) -/

/-- No slot makes room just when no waiting one has a lower standing. -/
theorem displaced_eq_none_iff {p : Payload} {q : List Slot} :
    displaced p q = none ↔ ∀ sl ∈ q, sl.state ≠ .onLine → sl.payload.standing ≤ p.standing := by
  refine ⟨fun hnone sl hm hw => ?_, fun hall => ?_⟩
  · by_contra hlow
    obtain ⟨d, hd, -⟩ := displaced_of_lower hm hw (Nat.lt_of_not_le hlow)
    rw [hnone] at hd
    cases hd
  · cases hd : displaced p q with
    | none => rfl
    | some d =>
      obtain ⟨hm, hlow⟩ := mem_of_displaced hd
      exact absurd (hall d hm (waiting_of_displaced hd)) (Nat.not_le_of_lt hlow)

theorem enqueue_of_refused {p : Payload} {q : List Slot} (now : Time) (hkind : ∀ sl ∈ q, sl.kind ≠ p.kind)
    (hfull : 4 ≤ q.length) (hd : displaced p q = none) : enqueue now p q = q := by
  unfold enqueue
  rw [slotOf_eq_none.2 hkind]
  dsimp only
  rw [if_neg (Nat.not_lt_of_le hfull), hd]

theorem enqueue_of_displaced {p : Payload} {q : List Slot} {d : Slot} (now : Time)
    (hkind : ∀ sl ∈ q, sl.kind ≠ p.kind) (hfull : 4 ≤ q.length) (hd : displaced p q = some d) :
    enqueue now p q = freeSlot d.kind q ++ [Slot.fresh now p] := by
  unfold enqueue
  rw [slotOf_eq_none.2 hkind]
  dsimp only
  rw [if_neg (Nat.not_lt_of_le hfull), hd]

/-! ### The CLEAR asked for (R27, R146) -/

/-- The CLEAR of ghost `n` is queued, or the queue is full of frames that do not make room for it. -/
def clearAsked (n : StationNo) (q : List Slot) : Prop :=
  (∃ sl ∈ q, sl.payload = .clear n ∧ sl.state = .queued) ∨ fullFor q (.clear n)

theorem clearAsked_enqueue {n : StationNo} {q : List Slot} (now : Time) (h : queueSound q)
    (hkind : ∀ sl ∈ q, sl.kind ≠ .clear) : clearAsked n (enqueue now (.clear n) q) := by
  have hfresh : ∀ l : List Slot, clearAsked n (l ++ [Slot.fresh now (.clear n)]) := fun l =>
    .inl ⟨Slot.fresh now (.clear n), by simp, rfl, rfl⟩
  obtain ⟨⟨hlen, -, -⟩, -⟩ := h
  by_cases hroom : q.length < 4
  · rw [enqueue_of_room now hkind hroom]
    exact hfresh q
  · have hfull : 4 ≤ q.length := Nat.le_of_not_lt hroom
    cases hd : displaced (.clear n) q with
    | some d =>
      rw [enqueue_of_displaced now hkind hfull hd]
      exact hfresh _
    | none =>
      rw [enqueue_of_refused now hkind hfull hd]
      exact .inr ⟨Nat.le_antisymm hlen hfull, displaced_eq_none_iff.1 hd⟩

/-- A CLAIM, of lower standing, does not take the place of a CLEAR. -/
theorem clearAsked_enqueue_claim {n : StationNo} {q : List Slot} (now : Time) (a : Half)
    (hkind : ∀ sl ∈ q, sl.kind ≠ .claim) (h : clearAsked n q) : clearAsked n (enqueue now (.claim a) q) := by
  rcases h with ⟨sl, hm, hpayload, hstate⟩ | ⟨hlen, hstanding⟩
  · refine .inl ⟨sl, ?_, hpayload, hstate⟩
    by_cases hroom : q.length < 4
    · rw [enqueue_of_room now hkind hroom]
      exact List.mem_append_left _ hm
    · have hfull : 4 ≤ q.length := Nat.le_of_not_lt hroom
      cases hd : displaced (.claim a) q with
      | none => rwa [enqueue_of_refused now hkind hfull hd]
      | some d =>
        rw [enqueue_of_displaced now hkind hfull hd]
        refine List.mem_append_left _ (List.mem_filter.2 ⟨hm, ?_⟩)
        have hlow := (mem_of_displaced hd).2
        have hne : d.kind ≠ .clear := by
          intro hclear
          unfold Slot.kind at hclear
          cases hb : d.payload <;> simp [hb, Payload.kind, Payload.standing] at hclear hlow
        simpa [Slot.kind, hpayload, Payload.kind] using hne.symm
  · have hnone : displaced (.claim a) q = none := displaced_eq_none_iff.2 fun sl hm hw =>
      (hstanding sl hm hw).trans (by simp [Payload.standing])
    rw [enqueue_of_refused now hkind hlen.ge hnone]
    exact .inr ⟨hlen, hstanding⟩

/-! ### The look at the standing conditions with an expired ghost (R27, R154) -/

/-- A settled station whose lowest expired ghost is `n`, with no CLEAR in its queue but that of `n`, QUEUED. -/
structure State.clearDue (s : State) (n : StationNo) : Prop where
  settled : s.settled
  lowest  : s.table.lowestExpired = some n
  sound   : queueSound s.queue
  clears  : ∀ sl ∈ s.queue, sl.kind = .clear → sl.payload = .clear n ∧ sl.state = .queued

section
variable {u b : State} {n : StationNo}

theorem clearDue_lookClosed (n : StationNo) : LookClosed fun u => u.clearDue n := by
  refine ⟨fun u p h hp => ⟨by simpa [State.settled] using h.settled, by simpa using h.lowest,
      queueSound_enqueue _ _ h.sound, ?_⟩,
    fun u k _ h => ⟨by simpa [State.settled] using h.settled, by simpa using h.lowest,
      queueSound_withdrawWaiting k h.sound,
      fun sl hm => h.clears sl (List.filter_subset_self _ hm)⟩,
    fun u h => ⟨h.settled, h.lowest, h.sound, h.clears⟩⟩
  have hclear : p.kind = .clear → ¬ u.holds .clear ∧ p = .clear n := by
    intro hkind
    rcases hp with hp | hp | hp | ⟨hnot, m, hm, rfl⟩ | ⟨-, rfl⟩
    · rw [hkind] at hp; cases hp
    · rw [hkind] at hp; cases hp
    · rw [hkind] at hp; cases hp
    · exact ⟨hnot, by rw [Option.some.inj (hm.symm.trans h.lowest)]⟩
    · cases hkind
  intro sl hm hkind
  rcases mem_enqueue_cases hm with hm | ⟨o, ho, hsame, rfl⟩ | rfl
  · exact h.clears sl hm hkind
  · have hp := (requested_kind hsame).symm.trans hkind
    exact absurd ((holds_iff u .clear).2 ⟨o, ho, hsame.trans hp⟩) (hclear hp).1
  · exact ⟨(hclear hkind).2, rfl⟩

theorem clearAgent_asks (h : u.clearDue n) : clearAsked n u.clearAgent.queue := by
  unfold State.clearAgent
  by_cases hholds : u.holds .clear
  · obtain ⟨sl, hm, hkind⟩ := (holds_iff u .clear).1 hholds
    rw [if_neg fun hc => hc.2 hholds]
    exact .inl ⟨sl, hm, h.clears sl hm hkind⟩
  · rw [if_pos ⟨h.settled, hholds⟩, h.lowest]
    exact clearAsked_enqueue _ h.sound fun sl hm hkind => hholds ((holds_iff u .clear).2 ⟨sl, hm, hkind⟩)

theorem claimAgent_keeps_clearAsked (h : clearAsked n u.queue) : clearAsked n u.claimAgent.queue := by
  unfold State.claimAgent
  split
  · rename_i hmay
    obtain ⟨-, -, -, -, -, -, -, -, -, hnone, -⟩ := hmay
    exact clearAsked_enqueue_claim _ _ (fun sl hm hkind => hnone ((holds_iff u .claim).2 ⟨sl, hm, hkind⟩)) h
  · exact h

/-- The RELEASE, SLOW and DEMAND are asked for before the CLEAR, and the CLAIM after it (log 10). -/
theorem lookAgain_asks (h : u.clearDue n) : clearAsked n u.lookAgain.queue := by
  have hclosed := clearDue_lookClosed n
  unfold State.lookAgain
  rw [if_pos h.settled.1]
  exact claimAgent_keeps_clearAsked (clearAgent_asks (demandAgent_induction hclosed
    (slowAgent_induction hclosed (releaseAgent_induction hclosed h))))

/-- A command that changes none but the items of the CLEAR ends with the CLEAR asked for. -/
theorem lookAfter_asks (h : u.clearDue n) (hr : u.releaseItems = b.releaseItems)
    (hd : u.demandItems = b.demandItems) (hc : u.clearItems ≠ b.clearItems) (hm : u.claimItems = b.claimItems) :
    clearAsked n (u.lookAfter b false).queue := by
  have hmet := met_of_unchanged u b (congrArg (fun x => x.2.1) hr) (congrArg (fun x => x.2.1) hd)
    (congrArg (fun x => x.2.2) hr) (congrArg (fun x => x.2.2) hd)
  have hchanged : u.lookChanged b = u.clearAgent := by simp [State.lookChanged, hr, hd, hc, hm]
  unfold State.lookAfter
  rw [if_pos h.settled.1, hmet]
  dsimp only
  rw [hchanged]
  split
  · exact lookAgain_asks h
  · split
    · exact lookAgain_asks (clearAgent_induction (clearDue_lookClosed n) h)
    · exact clearAgent_asks h

end

/-! ### The items that follow the own entry (R56, R57) -/

/-- RELEASE and DEMAND depend on the own entry, Grant Control, the station state and the phase. -/
theorem items_of_own_entry {s u : State} (hloader : u.loader = s.loader)
    (hown : u.table.member? s.own = s.table.member? s.own) (hgrant : u.grant = s.grant)
    (hsettled : u.settled ↔ s.settled) :
    u.releaseItems = s.releaseItems ∧ u.demandItems = s.demandItems := by
  have hmember : u.ownMember? = s.ownMember? := by
    unfold State.ownMember? State.own
    rw [hloader]
    exact hown
  simp only [State.releaseItems, State.demandItems, State.gOwn, State.dOwn, hmember, hgrant, hsettled, and_self]

/-! ### The ghost that expires (R26) -/

section
variable {s : State} {n : StationNo} {g : Ghost}

theorem lt_length_of_ghost {t : Table} (h : t.ghost? n = some g) : n.val < t.entries.length := by
  by_contra hlt
  have := ghost?_eq_some.1 h
  simp [Table.entryAt, List.getD_eq_getElem?_getD, hlt] at this

/-- The table in which ghost `n` has no time left. -/
def Table.ghostOver (t : Table) (n : StationNo) (g : Ghost) : Table := t.setEntry n (.ghost ⟨g.grant, none⟩)

theorem ghostOver_entryAt_of_ne (t : Table) (g : Ghost) {k : StationNo} (h : k ≠ n) :
    (t.ghostOver n g).entryAt k = t.entryAt k := by
  unfold Table.ghostOver
  rw [setEntry_entryAt, if_neg fun hk => h hk.1.symm]

theorem ghostOver_ghost? {t : Table} (h : t.ghost? n = some g) : (t.ghostOver n g).ghost? n = some ⟨g.grant, none⟩ := by
  unfold Table.ghostOver
  rw [ghost?_eq_some, setEntry_entryAt, if_pos ⟨rfl, lt_length_of_ghost h⟩]

theorem ghostOver_member? {t : Table} (h : t.ghost? n = some g) (k : StationNo) :
    (t.ghostOver n g).member? k = t.member? k := by
  by_cases hk : k = n
  · subst hk
    unfold Table.member?
    rw [ghost?_eq_some.1 (ghostOver_ghost? h), ghost?_eq_some.1 h]
  · unfold Table.member?
    rw [ghostOver_entryAt_of_ne t g hk]

/-- An expired ghost keeps its reservation (R5, R26). -/
theorem ghostOver_sum {t : Table} (h : t.ghost? n = some g) : (t.ghostOver n g).sum = t.sum := by
  have hset := sumOf_set Entry.held (.ghost ⟨g.grant, none⟩) t.entries n.val (lt_length_of_ghost h)
  have hheld : t.entries.getD n.val .absent = .ghost g := ghost?_eq_some.1 h
  rw [hheld] at hset
  exact Nat.add_right_cancel hset

/-- The expired ghost of lowest number (R27). -/
theorem lowestExpired_eq_some {t : Table} (h : t.expired n = true) (hlow : ∀ k, k.val < n.val → t.expired k = false) :
    t.lowestExpired = some n := by
  have hstation : ∀ (k : StationNo) (hk : k.val < stations.length), stations[k.val] = k := fun k _ =>
    (List.getElem_eq_iff _).2 (stations_getElem? k)
  have hlt : n.val < stations.length := n.isLt
  refine List.find?_eq_some_iff_getElem.2 ⟨h, n.val, hlt, hstation n hlt, fun j hj => ?_⟩
  have hlow' := hlow ⟨j, hj.trans n.isLt⟩ hj
  rw [← hstation ⟨j, hj.trans n.isLt⟩ (hj.trans hlt)] at hlow'
  rw [hlow']
  rfl

theorem expired_eq_false {t : Table} {k : StationNo} :
    t.expired k = false ↔ ∀ x, t.ghost? k = some x → x.timer ≠ none := by
  unfold Table.expired
  cases t.ghost? k <;> simp

theorem ghostOver_lowestExpired {t : Table} (h : t.ghost? n = some g)
    (hlow : ∀ k x, k.val < n.val → t.ghost? k = some x → x.timer ≠ none) :
    (t.ghostOver n g).lowestExpired = some n := by
  refine lowestExpired_eq_some ?_ fun k hk => expired_eq_false.2 fun x hx => hlow k x hk ?_
  · unfold Table.expired
    rw [ghostOver_ghost? h]
    rfl
  · have hne : k ≠ n := fun heq => by rw [heq] at hk; exact lt_irrefl _ hk
    rwa [ghost?_eq_some, ghostOver_entryAt_of_ne t g hne, ← ghost?_eq_some] at hx

/-- While its timer runs the ghost is not the expired one of lowest number. -/
theorem lowestExpired_ne_of_running {t : Table} (h : t.ghost? n = some g) (ht : g.timer ≠ none) :
    t.lowestExpired ≠ some n := by
  intro hlowest
  have hexpired : t.expired n = true := List.find?_some hlowest
  rw [expired_eq_false.2 fun x hx => Option.some.inj (h.symm.trans hx) ▸ ht] at hexpired
  cases hexpired

/-! ### The commands (R26, R27, R111) -/

theorem exec_isolationHoldExpiry_of_running {t : Time} (hlow : s.resetLow = false)
    (ht : s.station.holdTimer = some t) : exec .isolationHoldExpiry s = .next (s.reach t).enterListen := by
  simp only [exec, execIsolationHoldExpiry, outOfReset_of_released hlow, ht]

/-- The state in which ghost `n` has just expired. -/
def State.ghostEnded (s : State) (t : Time) (n : StationNo) (g : Ghost) : State :=
  (s.reach t).withTable (s.table.ghostOver n g)

theorem exec_ghostTimerExpiry_of_running {t : Time} (hlow : s.resetLow = false) (hg : s.table.ghost? n = some g)
    (ht : g.timer = some t) :
    exec (.ghostTimerExpiry n) s = .next ((s.ghostEnded t n g).lookAfter s false) := by
  simp only [exec, execGhostTimerExpiry, outOfReset_of_released hlow, hg, ht]
  rfl

theorem ghostEnded_claimItems (t : Time) (h : s.table.ghost? n = some g) :
    (s.ghostEnded t n g).claimItems = s.claimItems := by
  have hmember : (s.ghostEnded t n g).ownMember? = s.ownMember? := ghostOver_member? h s.own
  have hfree : (s.ghostEnded t n g).free = s.free := congrArg (s.budget - ·) (ghostOver_sum h)
  simp only [State.claimItems, State.gOwn, State.dOwn, hmember, hfree]
  rfl

/-- The CLEAR of a ghost that has expired is asked for, if it is the lowest expired one (R27). -/
theorem ghostEnded_asks {t : Time} (hg : s.table.ghost? n = some g) (ht : g.timer = some t) (hsettled : s.settled)
    (hsound : queueSound s.queue) (hnone : ∀ sl ∈ s.queue, sl.kind ≠ .clear)
    (hlow : ∀ k x, k.val < n.val → s.table.ghost? k = some x → x.timer ≠ none) :
    clearAsked n ((s.ghostEnded t n g).lookAfter s false).queue := by
  have hlowest := ghostOver_lowestExpired hg hlow
  obtain ⟨hr, hd⟩ := items_of_own_entry (s := s) (u := s.ghostEnded t n g) rfl (ghostOver_member? hg s.own) rfl Iff.rfl
  refine lookAfter_asks ⟨hsettled, hlowest, hsound, fun sl hm hkind => absurd hkind (hnone sl hm)⟩ hr hd
    (fun hc => ?_) (ghostEnded_claimItems t hg)
  have hsame : (s.table.ghostOver n g).lowestExpired = s.table.lowestExpired := congrArg Prod.snd hc
  exact lowestExpired_ne_of_running hg (by simp [ht]) (hsame.symm.trans hlowest)

end

/-- Settles O53: the hold's end is an entry to LISTEN, and the ghost's end changes what the CLEAR depends on alone. -/
theorem holdAndGhostTimers : Obligations.HoldAndGhostTimers := by
  intro s t hlow
  refine ⟨fun ht => ?_, fun n g hg ht _ => ?_⟩
  · obtain ⟨hcleared, hdemand, happlied, hcutoff, hlower⟩ := enterListen_effects (s.reach t)
    exact ⟨_, exec_isolationHoldExpiry_of_running hlow ht, by simp [State.sameBeside], rfl, rfl, hcleared, happlied,
      hdemand, hcutoff, hlower, rfl⟩
  · refine ⟨_, exec_ghostTimerExpiry_of_running hlow hg ht, by simp [State.sameBeside, State.ghostEnded],
      by simp [State.ghostEnded], by simp [State.ghostEnded, State.reach], ?_, fun k hk => ?_, ?_,
      by simp [State.ghostEnded], by simp [State.ghostEnded], by simp [State.ghostEnded], by simp [State.ghostEnded],
      ghostEnded_asks hg ht⟩
    · simpa [State.ghostEnded] using ghostOver_ghost? hg
    · simpa [State.ghostEnded] using ghostOver_entryAt_of_ne s.table g hk
    · simpa [State.ghostEnded] using ghostOver_sum hg

end Sys2Proof.Machine
end

section
/-! The beacon timer (R106, R154) and the members found silent (R2, R107): a line that is lost isolates the station, and
else the cause SILENCE is given. -/

namespace Sys2Proof.Machine

/-! ### The beacon timer (R106, R154) -/

section
variable {s u : State}

theorem exec_beaconTimerExpiry_of_running {t : Time} (hlow : s.resetLow = false)
    (ht : s.station.beaconTimer = some t) : exec .beaconTimerExpiry s = .next (s.reach t).beaconEnds := by
  simp only [exec, execBeaconTimerExpiry, outOfReset_of_released hlow, ht]

theorem beaconEnds_values (u : State) :
    u.beaconEnds.station = { u.station with beaconTimer := some (u.after u.tBeacon) } ∧
    u.beaconEnds.queue = if u.holds .beacon then u.queue else enqueue u.now (.beacon false) u.queue := by
  unfold State.beaconEnds
  dsimp only
  split
  · exact ⟨rfl, (if_pos ‹u.holds .beacon›).symm⟩
  · exact ⟨rfl, (if_neg ‹¬ u.holds .beacon›).symm⟩

/-- No frame stands below an ordinary BEACON (R146). -/
theorem displaced_ordinaryBeacon (q : List Slot) : displaced (.beacon false) q = none := by
  have hlowest : ∀ p : Payload, p.standing ≤ (Payload.beacon false).standing := by
    intro p
    cases p with
    | beacon close => cases close <;> decide
    | _ => simp [Payload.standing]
  exact displaced_eq_none_iff.2 fun sl _ _ => hlowest sl.payload

/-- An ordinary BEACON joins a queue that holds none and has a free slot. -/
theorem beaconEnds_queue_of_room (hnone : ∀ sl ∈ u.queue, sl.kind ≠ .beacon) (hroom : u.queue.length < 4) :
    u.beaconEnds.queue = u.queue ++ [Slot.fresh u.now (.beacon false)] := by
  have hholds : ¬ u.holds .beacon := fun h => by
    obtain ⟨sl, hm, hkind⟩ := (holds_iff u .beacon).1 h
    exact hnone sl hm hkind
  rw [(beaconEnds_values u).2, if_neg hholds, enqueue_of_room _ hnone hroom]

/-- In any other queue it changes nothing. -/
theorem beaconEnds_queue_of_refused (h : (∃ sl ∈ u.queue, sl.kind = .beacon) ∨ 4 ≤ u.queue.length) :
    u.beaconEnds.queue = u.queue := by
  rw [(beaconEnds_values u).2]
  split
  · rfl
  · rename_i hholds
    have hnone : ∀ sl ∈ u.queue, sl.kind ≠ .beacon := fun sl hm hkind =>
      hholds ((holds_iff u .beacon).2 ⟨sl, hm, hkind⟩)
    have hfull : 4 ≤ u.queue.length := h.resolve_left fun ⟨sl, hm, hkind⟩ => hnone sl hm hkind
    exact enqueue_of_refused _ hnone hfull (displaced_ordinaryBeacon _)

end

/-! ### The lost line (R107) -/

section
variable {u : State}

theorem roster_all_iff (u : State) (p : Member → Bool) :
    (u.table.roster.all fun k => decide (k = u.own) || (u.table.member? k).any p) = true ↔
    ∀ k m, k ≠ u.own → u.table.member? k = some m → p m = true := by
  simp only [Table.roster, List.all_eq_true, List.mem_filter, mem_stations, true_and, isMember_eq_true,
    Bool.or_eq_true, decide_eq_true_eq]
  constructor
  · intro h k m hk hm
    simpa [hm, hk] using h k ⟨m, hm⟩
  · rintro h k ⟨m, hm⟩
    by_cases hk : k = u.own
    · exact .inl hk
    · exact .inr (by simpa [hm] using h k m hk hm)

theorem allOthersSilent_iff (u : State) :
    u.allOthersSilent ↔ ∀ k m, k ≠ u.own → u.table.member? k = some m → m.silent = true :=
  roster_all_iff u Member.silent

theorem nothingHeard_iff (u : State) : u.nothingHeard ↔
    (∀ k m, k ≠ u.own → u.table.member? k = some m → u.tSilence / 2 < m.age u.now) ∧
    ∀ x, u.recount.lastNonMember = some x → ms (u.tSilence / 2) < u.now - x := by
  have hmembers := roster_all_iff u fun m => decide (u.tSilence / 2 < m.age u.now)
  simp only [decide_eq_true_eq] at hmembers
  refine and_congr hmembers ?_
  cases u.recount.lastNonMember <;> simp [olderThan]

/-! ### Member `n` marked silent (R2) -/

variable {s : State} {n : StationNo} {m : Member}

/-- The state in which member `n` has just been marked silent. -/
def State.silenced (s : State) (n : StationNo) (m : Member) : State :=
  (s.reach (s.silentMoment m)).withTable (s.table.updateMember n fun o => { o with silent := true })

theorem exec_memberSilent_of_due (hlow : s.resetLow = false) (hm : s.table.member? n = some m) (hsettled : s.settled)
    (hn : n ≠ s.own) (hsilent : m.silent = false) :
    exec (.memberSilent n) s = .next ((s.silenced n m).actOnSilence.lookAfter s false) := by
  simp only [exec, execMemberSilent, outOfReset_of_released hlow, hm]
  rw [if_pos ⟨hsettled, hn, hsilent⟩]
  rfl

@[simp] theorem silenced_frame (s : State) (n : StationNo) (m : Member) :
    (s.silenced n m).now = max s.now (m.since + ms (s.tSilence + 1)) ∧ (s.silenced n m).resetLow = s.resetLow ∧
    (s.silenced n m).csnHigh = s.csnHigh ∧ (s.silenced n m).loader = s.loader ∧ (s.silenced n m).line = s.line ∧
    (s.silenced n m).queue = s.queue ∧ (s.silenced n m).ring = s.ring ∧ (s.silenced n m).engine = s.engine ∧
    (s.silenced n m).grant = s.grant ∧ (s.silenced n m).recount = s.recount ∧
    (s.silenced n m).station = s.station ∧ (s.silenced n m).port = s.port ∧
    (s.silenced n m).events = s.events ∧ (s.silenced n m).pending = s.pending := by
  simp [State.silenced, State.reach, State.silentMoment]

theorem silenced_entryAt_of_ne (m : Member) {k : StationNo} (hk : k ≠ n) :
    (s.silenced n m).table.entryAt k = s.table.entryAt k := updateMember_entryAt_of_ne _ hk _

theorem silenced_member?_of_ne (m : Member) {k : StationNo} (hk : k ≠ n) :
    (s.silenced n m).table.member? k = s.table.member? k := by
  unfold Table.member?
  rw [silenced_entryAt_of_ne m hk]

theorem silenced_member? (hm : s.table.member? n = some m) :
    (s.silenced n m).table.member? n = some { m with silent := true } := updateMember_member? hm _

/-- No ghost is touched (R26). -/
theorem silenced_lowestExpired (hm : s.table.member? n = some m) :
    (s.silenced n m).table.lowestExpired = s.table.lowestExpired := by
  have hexpired : (s.silenced n m).table.expired = s.table.expired := by
    funext k
    unfold Table.expired Table.ghost?
    by_cases hk : k = n
    · subst hk
      rw [member?_eq_some.1 (silenced_member? hm), member?_eq_some.1 hm]
    · rw [silenced_entryAt_of_ne m hk]
  unfold Table.lowestExpired
  rw [hexpired]

/-! ### Whether the line is lost then (R107) -/

/-- Every member but the own station and `n` is silent. -/
def State.othersSilent (s : State) (n : StationNo) : Prop :=
  ∀ k mk, k ≠ s.own → k ≠ n → s.table.member? k = some mk → mk.silent = true

/-- A member but the own station and `n`, or a station outside the roster, has been heard within T_silence/2 before
moment `t`. -/
def State.othersHeard (s : State) (n : StationNo) (t : Time) : Prop :=
  (∃ k mk, k ≠ s.own ∧ k ≠ n ∧ s.table.member? k = some mk ∧ msBetween mk.since t ≤ s.tSilence / 2) ∨
  ∃ x, s.recount.lastNonMember = some x ∧ t - x ≤ ms (s.tSilence / 2)

theorem silenced_allOthersSilent_iff (hm : s.table.member? n = some m) :
    (s.silenced n m).allOthersSilent ↔ s.othersSilent n := by
  have hown : (s.silenced n m).own = s.own := rfl
  rw [allOthersSilent_iff, hown]
  refine ⟨fun h k mk hk hkn hmk => h k mk hk ((silenced_member?_of_ne m hkn).trans hmk), fun h k mk hk hmk => ?_⟩
  by_cases hkn : k = n
  · rw [hkn, silenced_member? hm] at hmk
    exact Option.some.inj hmk ▸ rfl
  · exact h k mk hk hkn ((silenced_member?_of_ne m hkn).symm.trans hmk)

/-- Member `n` itself was last heard longer than T_silence before the moment at which it is found silent. -/
theorem tSilence_lt_msBetween (s : State) (m : Member) :
    s.tSilence < msBetween m.since (max s.now (m.since + ms (s.tSilence + 1))) := by
  unfold msBetween ms ticksPerMs
  omega

/-- None of the others heard, the line is silent; ages hold at 65535 ms, past T_silence/2 (R2). -/
theorem silenced_nothingHeard (hm : s.table.member? n = some m) (hhalf : s.tSilence / 2 ≤ 32767)
    (hnone : ¬ s.othersHeard n (s.silenced n m).now) : (s.silenced n m).nothingHeard := by
  obtain ⟨hmembers, hstrangers⟩ := not_or.1 hnone
  refine (nothingHeard_iff _).2 ⟨fun k mk hk hmk => ?_, fun x hx => ?_⟩
  · have hlong : s.tSilence / 2 < msBetween mk.since (s.silenced n m).now := by
      by_cases hkn : k = n
      · rw [hkn, silenced_member? hm] at hmk
        obtain rfl := Option.some.inj hmk
        exact Nat.lt_of_le_of_lt (Nat.div_le_self _ _) (tSilence_lt_msBetween s m)
      · by_contra hshort
        exact hmembers ⟨k, mk, hk, hkn, (silenced_member?_of_ne m hkn).symm.trans hmk, Nat.le_of_not_lt hshort⟩
    have hheld : s.tSilence / 2 < 65535 := by omega
    exact lt_min hheld hlong
  · by_contra hrecent
    exact hstrangers ⟨x, hx, Nat.le_of_not_lt hrecent⟩

theorem silenced_not_nothingHeard (h : s.othersHeard n (s.silenced n m).now) : ¬ (s.silenced n m).nothingHeard := by
  intro hnothing
  obtain ⟨hmembers, hstrangers⟩ := (nothingHeard_iff _).1 hnothing
  rcases h with ⟨k, mk, hk, hkn, hmk, hshort⟩ | ⟨x, hx, hrecent⟩
  · have hlong := hmembers k mk hk ((silenced_member?_of_ne m hkn).trans hmk)
    exact absurd (lt_min_iff.1 hlong).2 (Nat.not_lt_of_le hshort)
  · exact absurd (hstrangers x hx) (Nat.not_lt_of_le hrecent)

/-! ### What the Station Controller does (R107) -/

/-- A station whose line is lost enters ISOLATED. -/
theorem silenced_isolates (hstate : s.station.state = .member) (hlost : (s.silenced n m).lineLost) :
    let u := (s.silenced n m).actOnSilence.lookAfter s false
    s.sameBeside u ∧ s.isolatedFrom u ∧ u.now = (s.silenced n m).now := by
  have hentry : (s.silenced n m).actOnSilence = (s.silenced n m).enterIsolated :=
    (if_pos hlost).trans (requestIsolated_of_takesPart (.inr hstate))
  have hcleared : (s.silenced n m).table.cleared = s.table.cleared := by
    have htable := updateMember_eq s.table n fun o => { o with silent := true }
    exact (congrArg Table.cleared htable).trans rfl
  rw [hentry, lookAfter_of_not_member _ _ _ (by simp)]
  exact ⟨by simp [State.sameBeside],
    isolatedFrom_of_same (enterIsolated_isolatedFrom _) (by simp) (by simp) hcleared (by simp) (by simp), by simp⟩

/-- A SILENCE that the guard holds is pending, and a CLAIM is withdrawn on its entry alone (R74). -/
theorem silenced_held (hm : s.table.member? n = some m) (hn : n ≠ s.own) (hsettled : s.settled)
    (hguard : s.recount.guardTimer ≠ none) :
    let u := ((s.silenced n m).giveCause .silence).lookAfter s false
    u.recount.causes.silence = true ∧ u.recount.requested = s.recount.requested ∧
    (s.recount.causes.silence = false → noneWaits u.queue .claim) ∧
    (s.recount.causes.silence = true → u.queue = s.queue) := by
  obtain ⟨hstate, hphase⟩ := hsettled
  have hgive : (s.silenced n m).giveCause .silence = (s.silenced n m).addPending .silence := by
    rw [giveCause_of_working ⟨by simpa using hstate, by simp [hphase]⟩, if_pos]
    simpa [Cause.guarded] using ⟨hphase, hguard⟩
  have hheld : ((s.silenced n m).addPending .silence).claimHeld :=
    .inr (.inr (.inr (by simp [PendingCauses.add, PendingCauses.empty])))
  rw [hgive]
  refine ⟨by simp [PendingCauses.add], by simp, fun hnew => ?_, fun hold => ?_⟩
  · refine lookAfter_noneWaits_claim _ _ hheld (addPending_noneWaits_of_new fun hadd => ?_)
    have := congrArg PendingCauses.silence hadd
    simp [PendingCauses.add, hnew] at this
  · have hadd : PendingCauses.add (s.silenced n m).recount.causes .silence = (s.silenced n m).recount.causes := by
      simp [PendingCauses.add, ← hold]
    rw [addPending_of_pending _ hadd] at hheld ⊢
    obtain ⟨hr, hd⟩ := items_of_own_entry (s := s) (u := s.silenced n m) (by simp)
      (silenced_member?_of_ne m hn.symm) (by simp) (by simp [State.settled])
    have hc : (s.silenced n m).clearItems = s.clearItems := by
      simp [State.clearItems, State.settled, silenced_lowestExpired hm]
    rw [lookAfter_of_claimHeld hr hd hc hheld (by simp)]
    simp

/-- With the guard stopped a recount is asked for (R71). -/
theorem silenced_asksFor (hsettled : s.settled) (hguard : s.recount.guardTimer = none) :
    s.asksFor (((s.silenced n m).giveCause .silence).lookAfter s false) .silence := by
  obtain ⟨hstate, hphase⟩ := hsettled
  rw [giveCause_of_working ⟨by simpa using hstate, by simp [hphase]⟩, if_neg (by simp [hguard])]
  exact requestRecount_asksFor _ _ _ (by simp) fun hsound => ⟨by simpa using hsound, leaveQueued_of_queue (by simp)⟩

end

/-- Settles O52: `beaconEnds` by what the queue holds, and `actOnSilence` by whether the line is lost, which the other
members and the strangers decide, the silent one itself having been heard too long ago. -/
theorem silenceAndBeaconTimers : Obligations.SilenceAndBeaconTimers := by
  intro s hlow
  refine ⟨fun t ht => ?_, fun n m hm hsettled hn hsilent _ => ?_⟩
  · obtain ⟨hstation, -⟩ := beaconEnds_values (s.reach t)
    refine ⟨_, exec_beaconTimerExpiry_of_running hlow ht, by simp [State.sameBeside], by simp, by simp [State.reach],
      hstation, fun hnone hroom => ?_, fun hrefused => ?_, by simp⟩
    · rw [beaconEnds_queue_of_room (u := s.reach t) hnone hroom]
      simp
    · exact beaconEnds_queue_of_refused (u := s.reach t) hrefused
  · intro moment half allSilent heard
    have hexec := exec_memberSilent_of_due hlow hm hsettled hn hsilent
    refine ⟨fun hlost => ⟨_, hexec, silenced_isolates hsettled.1 ?_⟩, fun hsilentOthers hheard => ?_⟩
    · exact hlost.imp (silenced_allOthersSilent_iff hm).2 fun hnone => silenced_nothingHeard hm hnone.2 hnone.1
    · have hkept : ¬ (s.silenced n m).lineLost := fun hlost =>
        hlost.elim (fun h => hsilentOthers ((silenced_allOthersSilent_iff hm).1 h)) (silenced_not_nothingHeard hheard)
      have hgive : (s.silenced n m).actOnSilence = (s.silenced n m).giveCause .silence := if_neg hkept
      rw [hgive] at hexec
      exact ⟨_, hexec, by simp [State.sameBeside], by simp, by simp [moment, State.tSilence],
        by simpa using silenced_member? hm, fun j hj => by simpa using silenced_entryAt_of_ne m hj, by simp, by simp,
        silenced_held hm hn hsettled, silenced_asksFor hsettled⟩

end Sys2Proof.Machine
end

section
/-! The receive checks as the inverse of the forming of a frame (R117 to R125, R130): an activity passes them exactly
when it is the cells of a frame whose quantities are in range, and what it gives is that frame. -/

namespace Sys2Proof.Machine

/-! ### Fields and bytes (R117, R135, 00_scope.md 4.5) -/

theorem half_hi_lo (x : Half) : half (hi x) (lo x) = x :=
  (BitVec.extractLsb'_append_extractLsb'_eq_extractLsb' (by decide)).trans (by simp)

theorem be16_half (h l : Byte) : be16 (half h l) = [h, l] := by
  have hhi : hi (half h l) = h := BitVec.extractLsb'_append_eq_left
  have hlo : lo (half h l) = l := BitVec.extractLsb'_append_eq_right
  rw [be16, hhi, hlo]

theorem be16_injective : Function.Injective be16 := by
  intro x y h
  obtain ⟨hhi, hlo⟩ : hi x = hi y ∧ lo x = lo y := by simpa [be16] using h
  rw [← half_hi_lo x, ← half_hi_lo y, hhi, hlo]

theorem be32_append (r3 r2 r1 r0 : Byte) : be32 (r3 ++ r2 ++ r1 ++ r0) = [r3, r2, r1, r0] := by
  have h3 : (r3 ++ r2 ++ r1 ++ r0).extractLsb' 24 8 = r3 := by
    rw [BitVec.extractLsb'_append_eq_of_le (by decide), BitVec.extractLsb'_append_eq_of_le (by decide),
      BitVec.extractLsb'_append_eq_left]
  have h2 : (r3 ++ r2 ++ r1 ++ r0).extractLsb' 16 8 = r2 := by
    rw [BitVec.extractLsb'_append_eq_of_le (by decide), BitVec.extractLsb'_append_eq_of_le (by decide),
      BitVec.extractLsb'_append_eq_right]
  have h1 : (r3 ++ r2 ++ r1 ++ r0).extractLsb' 8 8 = r1 := by
    rw [BitVec.extractLsb'_append_eq_of_le (by decide), BitVec.extractLsb'_append_eq_right]
  have h0 : (r3 ++ r2 ++ r1 ++ r0).extractLsb' 0 8 = r0 := BitVec.extractLsb'_append_eq_right
  exact congrArg₂ List.cons h3 (congrArg₂ List.cons h2 (congrArg₂ List.cons h1 (congrArg₂ List.cons h0 rfl)))

theorem append_be32 (v : BitVec 32) : v.extractLsb' 24 8 ++ v.extractLsb' 16 8 ++ v.extractLsb' 8 8 ++
    v.extractLsb' 0 8 = v := by
  rw [BitVec.extractLsb'_append_extractLsb'_eq_extractLsb' (by decide),
    BitVec.extractLsb'_append_extractLsb'_eq_extractLsb' (by decide),
    BitVec.extractLsb'_append_extractLsb'_eq_extractLsb' (by decide)]
  simp

/-- A station number byte is one of 0 to 31 (R118, R122). -/
theorem stationOf_eq_some {b : Byte} {n : StationNo} : stationOf b = some n ↔ b = nat8 n.val := by
  unfold stationOf nat8
  constructor
  · intro h
    split at h
    · obtain rfl := Option.some.inj h
      simp
    · cases h
  · rintro rfl
    have hval : (BitVec.ofNat 8 n.val).toNat = n.val := by
      rw [BitVec.toNat_ofNat]
      omega
    simp [hval]

theorem causeOf_eq_some {b : Byte} {c : Cause} : causeOf b = some c ↔ b = nat8 c.code := by
  cases c <;> revert b <;> decide

/-- A kind code stands in the upper half of header byte 0, with the lower half clear (R118). -/
theorem kindByte_iff {k : Byte} (c : Kind) : k &&& 0x0F#8 = 0 ∧ k >>> 4 = kindCode c ↔ k = kindCode c <<< 4 := by
  revert k
  cases c <;> decide

theorem kindCode_injective : Function.Injective kindCode := by
  intro a b
  cases a <;> cases b <;> decide

/-! ### Bits and cells (R138) -/

theorem byteBits_bitsByte : ∀ a b c d e f g h : Bool,
    byteBits (bitsByte a b c d e f g h) = [a, b, c, d, e, f, g, h] := by
  decide

theorem bitsByte_of_byte : ∀ b : Byte, bitsByte (b.getLsbD 7) (b.getLsbD 6) (b.getLsbD 5) (b.getLsbD 4) (b.getLsbD 3)
    (b.getLsbD 2) (b.getLsbD 1) (b.getLsbD 0) = b := by
  decide

theorem bytesBits_cons (b : Byte) (l : List Byte) : bytesBits (b :: l) = byteBits b ++ bytesBits l := rfl

theorem bytesBits_length (l : List Byte) : (bytesBits l).length = 8 * l.length := by
  induction l with
  | nil => rfl
  | cons b l ih =>
    rw [bytesBits_cons, List.length_append, ih, List.length_cons]
    simp only [byteBits, List.length_cons, List.length_nil]
    omega

theorem bitsBytes_bytesBits (l : List Byte) : bitsBytes (bytesBits l) = some l := by
  induction l with
  | nil => rfl
  | cons b l ih =>
    simp only [bytesBits_cons, byteBits, List.cons_append, List.nil_append, bitsBytes, ih, bitsByte_of_byte,
      Option.map_some]

/-- Whole bytes alone make a run of bits (R130, check 2). -/
theorem bitsBytes_eq_some {bits : List Bool} {l : List Byte} : bitsBytes bits = some l ↔ bits = bytesBits l := by
  refine ⟨fun h => ?_, fun h => h ▸ bitsBytes_bytesBits l⟩
  induction bits using bitsBytes.induct generalizing l with
  | case1 =>
    obtain rfl := Option.some.inj h
    rfl
  | case2 a b c d e f g h' rest ih =>
    obtain ⟨l', hl', rfl⟩ := Option.map_eq_some_iff.1 h
    rw [bytesBits_cons, byteBits_bitsByte, ← ih hl']
    rfl
  | case3 bits hnil hbyte =>
    rw [bitsBytes] at h
    · cases h
    · exact hnil
    · exact hbyte

theorem bytesBits_injective : Function.Injective bytesBits := fun l l' h =>
  Option.some.inj ((bitsBytes_bytesBits l).symm.trans (h ▸ bitsBytes_bytesBits l'))

theorem bitOf_eq_some {c : Cell} {b : Bool} : bitOf c = some b ↔ c = cellOf b := by
  obtain ⟨x, y⟩ := c
  cases x <;> cases y <;> cases b <;> decide

theorem cellOf_injective : Function.Injective cellOf := fun _ _ h => congrArg Cell.first h

/-- An activity without a coding violation is the cells of its bits (R130, check 1). -/
theorem cellsBits_eq_some {cells : List Cell} {bits : List Bool} :
    cellsBits cells = some bits ↔ cells = bits.map cellOf := by
  induction cells generalizing bits with
  | nil => cases bits <;> simp [cellsBits]
  | cons c cs ih =>
    cases bits with
    | nil =>
      simp only [cellsBits]
      split <;> simp
    | cons b bits =>
      rw [List.map_cons, List.cons.injEq, ← bitOf_eq_some, ← ih]
      simp only [cellsBits]
      cases bitOf c <;> cases cellsBits cs <;> simp

/-! ### Payloads (R119 to R124) -/

/-- A payload whose quantities lie in the ranges the receive checks ask for (R121, R124). -/
def Body.inRange (b : Body) : Prop :=
  match b with
  | .claim amount => amount ≠ 0
  | .report _ weight _ _ _ => weight ≠ 0
  | _ => True

theorem frame_inRange_iff (f : Frame) : f.inRange ↔ f.body.inRange := Iff.rfl

theorem body_bytes_length (b : Body) : b.bytes.length = payloadLength b.kind := by cases b <;> rfl

/-- The weight byte of a REPORT is a weight of 1 to 15 with its spare bits clear (R124). -/
theorem weightByte_iff : ∀ w : Byte, w.toNat < 16 ∧ w ≠ 0 ↔
    (w.setWidth 4).setWidth 8 = w ∧ w.setWidth 4 ≠ (0 : BitVec 4) := by
  decide

theorem setWidth_weight : ∀ w : BitVec 4, (w.setWidth 8).setWidth 4 = w := by decide

/-- What a payload parses to has that payload, and is in range (R130, checks 4 to 7). -/
theorem of_parseBody {code : Byte} {p : List Byte} {b : Body} (h : parseBody code p = some b) :
    code = kindCode b.kind ∧ p = b.bytes ∧ b.inRange := by
  unfold parseBody at h
  split at h
  case h_1 =>
    obtain ⟨rfl, ⟨⟩⟩ := Option.ite_none_right_eq_some.1 h
    exact ⟨rfl, rfl, trivial⟩
  case h_2 =>
    obtain ⟨rfl, h⟩ := Option.ite_none_right_eq_some.1 h
    obtain ⟨n, hn, rfl⟩ := Option.map_eq_some_iff.1 h
    exact ⟨rfl, congrArg ([·]) (stationOf_eq_some.1 hn), trivial⟩
  case h_3 a b =>
    have hfield : [a, b] = be16 (half a b) := (be16_half a b).symm
    split at h
    · subst code
      cases h
      exact ⟨rfl, hfield, trivial⟩
    · split at h
      · subst code
        obtain ⟨hne, ⟨⟩⟩ := Option.ite_none_left_eq_some.1 h
        exact ⟨rfl, hfield, hne⟩
      · obtain ⟨rfl, ⟨⟩⟩ := Option.ite_none_right_eq_some.1 h
        exact ⟨rfl, hfield, trivial⟩
  case h_4 =>
    obtain ⟨rfl, h⟩ := Option.ite_none_right_eq_some.1 h
    obtain ⟨c, hc, rfl⟩ := Option.map_eq_some_iff.1 h
    exact ⟨rfl, by simp [Body.bytes, be16_half, causeOf_eq_some.1 hc], trivial⟩
  case h_5 =>
    obtain ⟨⟨hcode, hw⟩, ⟨⟩⟩ := Option.ite_none_right_eq_some.1 h
    obtain ⟨hspare, hne⟩ := (weightByte_iff _).1 hw
    exact ⟨hcode, by simp [Body.bytes, be16_half, hspare], hne⟩
  case h_6 =>
    obtain ⟨rfl, ⟨⟩⟩ := Option.ite_none_right_eq_some.1 h
    exact ⟨rfl, by simp [Body.bytes, be16_half, be32_append], trivial⟩
  case h_7 => cases h

/-- And every payload in range parses to itself. -/
theorem parseBody_bytes {b : Body} (h : b.inRange) : parseBody (kindCode b.kind) b.bytes = some b := by
  cases b with
  | beacon g d roster digest =>
    simp [parseBody, Body.bytes, Body.kind, kindCode, be16, be32, half_hi_lo, append_be32]
  | demand v => simp [parseBody, Body.bytes, Body.kind, kindCode, be16, half_hi_lo]
  | claim amount =>
    have hne : amount ≠ 0 := h
    simpa [parseBody, Body.bytes, Body.kind, kindCode, be16, half_hi_lo]
  | release v => simp [parseBody, Body.bytes, Body.kind, kindCode, be16, half_hi_lo]
  | clear n => exact congrArg (Option.map Body.clear) (stationOf_eq_some.2 rfl)
  | slow => rfl
  | recount target cause =>
    have hcause : causeOf (nat8 cause.code) = some cause := causeOf_eq_some.2 rfl
    simp [parseBody, Body.bytes, Body.kind, kindCode, be16, half_hi_lo, hcause]
  | report target weight d g digest =>
    have hne : weight ≠ 0 := h
    have hw := (weightByte_iff (weight.setWidth 8)).2 ⟨by rw [setWidth_weight], by rwa [setWidth_weight]⟩
    simp only [parseBody, Body.bytes, Body.kind, kindCode, be16, List.cons_append, List.nil_append, half_hi_lo,
      setWidth_weight]
    exact if_pos ⟨trivial, hw⟩

theorem parseBody_eq_some {code : Byte} {p : List Byte} {b : Body} :
    parseBody code p = some b ↔ code = kindCode b.kind ∧ p = b.bytes ∧ b.inRange :=
  ⟨of_parseBody, fun ⟨hcode, hp, hrange⟩ => by rw [hcode, hp, parseBody_bytes hrange]⟩

/-! ### Frames (R117, R118, R125, R130) -/

theorem content_eq (f : Frame) : f.content = [kindCode f.kind <<< 4, nat8 f.sender.val, hi f.epoch, lo f.epoch,
    hi f.tsn, lo f.tsn] ++ f.body.bytes := rfl

/-- The header and payload bytes that parse are those of a frame in range. -/
theorem parseContent_eq_some {l : List Byte} {f : Frame} :
    parseContent l = some f ↔ l = f.content ∧ f.inRange := by
  constructor
  · intro h
    unfold parseContent at h
    split at h
    · rename_i k n e1 e0 t1 t0 payload
      obtain ⟨hlow, h⟩ := Option.ite_none_right_eq_some.1 h
      split at h
      · rename_i sender body hsender hbody
        obtain rfl := Option.some.inj h
        obtain ⟨hcode, rfl, hrange⟩ := parseBody_eq_some.1 hbody
        refine ⟨?_, (frame_inRange_iff _).2 hrange⟩
        rw [(kindByte_iff _).1 ⟨hlow, hcode⟩, stationOf_eq_some.1 hsender]
        have he := be16_half e1 e0
        have ht := be16_half t1 t0
        simp only [Frame.content, he, ht]
        rfl
      · cases h
    · cases h
  · rintro ⟨rfl, hrange⟩
    obtain ⟨hlow, hcode⟩ := (kindByte_iff f.kind).2 rfl
    have hsender := stationOf_eq_some.2 (rfl : nat8 f.sender.val = nat8 f.sender.val)
    have hbody : parseBody (kindCode f.kind) f.body.bytes = some f.body :=
      parseBody_bytes ((frame_inRange_iff f).1 hrange)
    simp only [content_eq, List.cons_append, List.nil_append, parseContent, hlow, hcode, hsender, hbody, half_hi_lo,
      if_true]

/-- The last two bytes are the check of those before them (R117, R125). -/
theorem parseBytes_append_be16 (l : List Byte) (check : Half) :
    parseBytes (l ++ be16 check) = if crc l = check then parseContent l else none := by
  have hlen : (l ++ be16 check).length - 2 = l.length := by simp [be16]
  unfold parseBytes
  rw [hlen, List.take_left, List.drop_left]
  simp only [be16_injective.eq_iff]

theorem parseBytes_eq_some {l : List Byte} {f : Frame} : parseBytes l = some f ↔ l = f.bytes ∧ f.inRange := by
  constructor
  · intro h
    unfold parseBytes at h
    obtain ⟨hcheck, h⟩ := Option.ite_none_right_eq_some.1 h
    obtain ⟨hcontent, hrange⟩ := parseContent_eq_some.1 h
    rw [hcontent] at hcheck
    refine ⟨?_, hrange⟩
    rw [Frame.bytes, hcheck, ← hcontent, List.take_append_drop]
  · rintro ⟨rfl, hrange⟩
    rw [Frame.bytes, parseBytes_append_be16, if_pos rfl]
    exact parseContent_eq_some.2 ⟨rfl, hrange⟩

theorem frame_cells_eq (f : Frame) : f.cells = activityOf f.bytes := rfl

theorem activityOf_injective : Function.Injective activityOf := fun _ _ h =>
  bytesBits_injective (List.append_cancel_left (List.map_injective_iff.2 cellOf_injective h))

/-- An activity passes the receive checks exactly when it is the cells of a frame in range, and gives that frame. -/
theorem receiveCheck_eq_some {cells : List Cell} {f : Frame} :
    receiveCheck cells = some f ↔ cells = f.cells ∧ f.inRange := by
  constructor
  · intro h
    unfold receiveCheck at h
    split at h
    · cases h
    · rename_i bits hbits
      obtain ⟨hstart, h⟩ := Option.ite_none_right_eq_some.1 h
      split at h
      · cases h
      · rename_i bytes hbytes
        obtain ⟨rfl, hrange⟩ := parseBytes_eq_some.1 h
        refine ⟨?_, hrange⟩
        rw [cellsBits_eq_some.1 hbits, ← List.take_append_drop 8 bits, hstart, bitsBytes_eq_some.1 hbytes]
        rfl
  · rintro ⟨rfl, hrange⟩
    have hbits : cellsBits f.cells = some f.bits := cellsBits_eq_some.2 rfl
    have hbytes : bitsBytes (f.bits.drop 8) = some f.bytes := bitsBytes_bytesBits f.bytes
    have hstart : f.bits.take 8 = delimiter := rfl
    simp only [receiveCheck, hbits, hbytes, hstart, if_true]
    exact parseBytes_eq_some.2 ⟨rfl, hrange⟩

/-! ### What a passing activity is made of (R117, R118) -/

theorem receiveCheck_activityOf {l : List Byte} {f : Frame} :
    receiveCheck (activityOf l) = some f ↔ l = f.bytes ∧ f.inRange := by
  rw [receiveCheck_eq_some, frame_cells_eq, activityOf_injective.eq_iff]

/-- Bytes with a check of their own pass as the content of a frame, under the check of R125. -/
theorem receiveCheck_append_be16 {l : List Byte} {check : Half} {f : Frame} :
    receiveCheck (activityOf (l ++ be16 check)) = some f ↔ (l = f.content ∧ check = crc l) ∧ f.inRange := by
  rw [receiveCheck_activityOf, Frame.bytes]
  refine and_congr_left fun _ => ⟨fun h => ?_, fun ⟨hl, hcheck⟩ => by rw [hcheck, hl]⟩
  obtain ⟨rfl, hcheck⟩ := List.append_inj' h rfl
  exact ⟨rfl, be16_injective hcheck⟩

/-- Header and payload of bytes that pass. -/
theorem header_of_receiveCheck {k n e1 e0 t1 t0 : Byte} {p : List Byte} {f : Frame}
    (h : receiveCheck (activityOf (checked ([k, n, e1, e0, t1, t0] ++ p))) = some f) :
    (k &&& 0x0F#8 = 0 ∧ k >>> 4 = kindCode f.kind) ∧ n = nat8 f.sender.val ∧ p = f.body.bytes ∧
    f.body.inRange := by
  obtain ⟨⟨hcontent, -⟩, hrange⟩ := receiveCheck_append_be16.1 h
  rw [content_eq] at hcontent
  obtain ⟨hheader, hp⟩ := List.append_inj hcontent rfl
  obtain ⟨hk, hn, -⟩ : k = _ ∧ n = _ ∧ _ := by simpa using hheader
  exact ⟨(kindByte_iff _).2 hk, hn, hp, hrange⟩

/-! ### Lengths (R119, R127) -/

theorem frame_bytes_length (f : Frame) : f.bytes.length = 8 + payloadLength f.kind := by
  simp only [Frame.bytes, content_eq, be16, List.length_append, body_bytes_length, List.length_cons, List.length_nil,
    Frame.kind]
  omega

theorem frame_bits_length (f : Frame) : f.bits.length = 8 * (9 + payloadLength f.kind) := by
  simp only [Frame.bits, delimiter, List.length_append, bytesBits_length, frame_bytes_length, List.length_cons,
    List.length_nil]
  omega

theorem frame_cells_length (f : Frame) : f.cells.length = 8 * (9 + payloadLength f.kind) :=
  (List.length_map _).trans (frame_bits_length f)

/-! ### What the bytes of a frame can be (R118, R121 to R124) -/

theorem kindCode_range (c : Kind) : kindCode c ≠ 0 ∧ (kindCode c).toNat ≤ 8 := by cases c <;> decide

theorem stationByte_spare : ∀ n : StationNo, nat8 n.val &&& 0xE0#8 = 0 := by decide

theorem clear_bytes_le {b : Body} (h : b.kind = .clear) : ∀ x ∈ b.bytes, x.toNat ≤ 31 := by
  cases b with
  | clear n =>
    intro x hx
    obtain rfl := List.mem_singleton.1 hx
    revert n
    decide
  | _ => cases h

theorem recount_cause_le {b : Body} (h : b.kind = .recount) : ∀ x ∈ b.bytes.drop 2, x.toNat ≤ 7 := by
  cases b with
  | recount target cause =>
    intro x hx
    obtain rfl := List.mem_singleton.1 hx
    cases cause <;> decide
  | _ => cases h

theorem weightByte_spare : ∀ w : BitVec 4, w ≠ 0 → w.setWidth 8 ≠ (0 : Byte) ∧ w.setWidth 8 &&& 0xF0#8 = 0 := by
  decide

theorem report_weight {b : Body} (h : b.kind = .report) (hrange : b.inRange) :
    ∀ x ∈ (b.bytes.drop 2).take 1, x ≠ 0 ∧ x &&& 0xF0#8 = 0 := by
  cases b with
  | report target weight d g digest =>
    intro x hx
    obtain rfl := List.mem_singleton.1 hx
    exact weightByte_spare weight hrange
  | _ => cases h

theorem claim_bytes_ne {b : Body} (h : b.kind = .claim) (hrange : b.inRange) : b.bytes ≠ [0, 0] := by
  cases b with
  | claim amount => exact fun hzero => hrange (be16_injective hzero)
  | _ => cases h

/-- Whether a payload is in range is settled by its kind and its bytes. -/
theorem inRange_of_same_bytes {b c : Body} (hkind : b.kind = c.kind) (hbytes : b.bytes = c.bytes) (h : c.inRange) :
    b.inRange := by
  cases b with
  | claim amount =>
    rintro rfl
    exact claim_bytes_ne hkind.symm h hbytes.symm
  | report target weight d g digest =>
    rintro rfl
    exact (report_weight hkind.symm h 0 (hbytes ▸ List.mem_singleton.2 rfl)).1 rfl
  | _ => trivial

theorem inRange_of_same_cells {f g : Frame} (h : f.cells = g.cells) (hg : g.inRange) : f.inRange := by
  obtain ⟨hcontent, -⟩ := List.append_inj' (activityOf_injective h) rfl
  rw [content_eq, content_eq] at hcontent
  obtain ⟨hheader, hbytes⟩ := List.append_inj hcontent rfl
  have hk : kindCode f.kind <<< 4 = kindCode g.kind <<< 4 := (List.cons.inj hheader).1
  obtain ⟨-, hcode⟩ := (kindByte_iff f.kind).2 rfl
  rw [hk, ((kindByte_iff g.kind).2 rfl).2] at hcode
  exact inRange_of_same_bytes (kindCode_injective hcode.symm) hbytes hg

end Sys2Proof.Machine
end

section
/-! Frames sent and received (R117 to R130, R135): the receive checks, and the lengths of frames. -/

namespace Sys2Proof.Machine

/-- Settles O27: the receive checks pass the cells of a frame in range, with that frame. -/
theorem receiveChecksGiveBackEveryFrame : Obligations.ReceiveChecksGiveBackEveryFrame := fun _ hrange =>
  receiveCheck_eq_some.2 ⟨rfl, hrange⟩

/-- An activity is rejected when every frame in range that it could carry is excluded. -/
theorem rejected_of_forall {cells : List Cell} (h : ∀ f, receiveCheck cells ≠ some f) : receiveCheck cells = none :=
  Option.eq_none_iff_forall_ne_some.2 h

/-- Checks 1 and 2 of R130: the cells of a frame hold no coding violation, begin with the delimiter and are whole
bytes. -/
theorem rejected_of_bits (cells : List Cell) :
    ((∃ c ∈ cells, c.first = c.second) → receiveCheck cells = none) ∧
    ∀ bits, cells = List.map cellOf bits →
      (bits.take 8 ≠ delimiter → receiveCheck cells = none) ∧ (bits.length % 8 ≠ 0 → receiveCheck cells = none) := by
  refine ⟨fun ⟨c, hc, hviolation⟩ => rejected_of_forall fun f hf => ?_, fun bits hbits => ?_⟩
  · obtain ⟨rfl, -⟩ := receiveCheck_eq_some.1 hf
    obtain ⟨b, -, rfl⟩ := List.mem_map.1 hc
    cases b <;> cases hviolation
  · have hframe : ∀ f, receiveCheck cells = some f → bits = f.bits := fun f hf =>
      List.map_injective_iff.2 cellOf_injective (hbits.symm.trans (receiveCheck_eq_some.1 hf).1)
    refine ⟨fun hstart => rejected_of_forall fun f hf => hstart ?_,
      fun hpart => rejected_of_forall fun f hf => hpart ?_⟩
    · rw [hframe f hf]
      rfl
    · rw [hframe f hf, frame_bits_length, Nat.mul_mod_right]

section
variable {k n e1 e0 t1 t0 : Byte} {p : List Byte}

/-- No frame in range has the header and payload of these bytes. -/
theorem rejected_of_header (h : ∀ f : Frame, k &&& 0x0F#8 = 0 → k >>> 4 = kindCode f.kind → n = nat8 f.sender.val →
    p = f.body.bytes → f.body.inRange → False) :
    receiveCheck (activityOf (checked ([k, n, e1, e0, t1, t0] ++ p))) = none := by
  refine rejected_of_forall fun f hf => ?_
  obtain ⟨⟨hlow, hcode⟩, hn, hp, hrange⟩ := header_of_receiveCheck hf
  exact h f hlow hcode hn hp hrange

/-- No payload in range of the kind that the code names has these bytes. -/
theorem rejected_of_payload (kind : Kind) (hcode : k >>> 4 = kindCode kind)
    (h : ∀ b : Body, b.kind = kind → b.inRange → p ≠ b.bytes) :
    receiveCheck (activityOf (checked ([k, n, e1, e0, t1, t0] ++ p))) = none :=
  rejected_of_header fun f _ hk _ hp hrange => h f.body (kindCode_injective (hk.symm.trans hcode)) hrange hp

end

/-- Checks 4 to 7 of R130, with a check that agrees. -/
theorem rejected_of_fields (k n e1 e0 t1 t0 : Byte) (p : List Byte) :
    let rejected := receiveCheck (activityOf (checked ([k, n, e1, e0, t1, t0] ++ p))) = none
    (k >>> 4 = 0 ∨ 8 < (k >>> 4).toNat → rejected) ∧
    (∀ kind : Kind, k >>> 4 = kindCode kind → p.length ≠ payloadLength kind → rejected) ∧
    (k &&& 0x0F ≠ 0 → rejected) ∧ (n &&& 0xE0 ≠ 0 → rejected) ∧
    (k >>> 4 = 3 → p = [0, 0] → rejected) ∧
    (k >>> 4 = 5 → (∃ x ∈ p, 31 < x.toNat) → rejected) ∧
    (k >>> 4 = 7 → (∃ x ∈ p.drop 2, 7 < x.toNat) → rejected) ∧
    (k >>> 4 = 8 → (∃ x ∈ (p.drop 2).take 1, x = 0 ∨ x &&& 0xF0 ≠ 0) → rejected) := by
  refine ⟨fun hcode => rejected_of_header fun f _ hk _ _ _ => ?_,
    fun kind hcode hlen => rejected_of_payload kind hcode fun b hb _ hp => hlen ?_,
    fun hspare => rejected_of_header fun f hlow _ _ _ _ => hspare hlow,
    fun hspare => rejected_of_header fun f _ _ hn _ _ => hspare (hn ▸ stationByte_spare _),
    fun hcode hzero => rejected_of_payload .claim hcode fun b hb hrange hp =>
      claim_bytes_ne hb hrange (hp.symm.trans hzero),
    fun hcode ⟨x, hx, hbig⟩ => rejected_of_payload .clear hcode fun b hb _ hp =>
      Nat.not_lt_of_le (clear_bytes_le hb x (hp ▸ hx)) hbig,
    fun hcode ⟨x, hx, hbig⟩ => rejected_of_payload .recount hcode fun b hb _ hp =>
      Nat.not_lt_of_le (recount_cause_le hb x (hp ▸ hx)) hbig,
    fun hcode ⟨x, hx, hbad⟩ => rejected_of_payload .report hcode fun b hb hrange hp => ?_⟩
  · obtain ⟨hne, hle⟩ := kindCode_range f.kind
    rw [hk] at hcode
    exact hcode.elim hne (Nat.not_lt_of_le hle)
  · rw [hp, body_bytes_length, hb]
  · obtain ⟨hne, hspare⟩ := report_weight hb hrange x (hp ▸ hx)
    exact hbad.elim hne fun h => h hspare

/-- Settles O28: whatever passes is the cells of a frame in range, which meets each of the seven checks. -/
theorem malformedActivitiesAreRejected : Obligations.MalformedActivitiesAreRejected := by
  refine ⟨fun f hrange => rejected_of_forall fun g hg => ?_, rejected_of_bits,
    fun l check hcheck => rejected_of_forall fun f hf => ?_, fun l hlen => rejected_of_forall fun f hf => ?_,
    rejected_of_fields⟩
  · obtain ⟨hcells, hg⟩ := receiveCheck_eq_some.1 hg
    exact hrange (inRange_of_same_cells hcells hg)
  · obtain ⟨⟨-, hequal⟩, -⟩ := receiveCheck_append_be16.1 hf
    exact hcheck hequal
  · obtain ⟨rfl, -⟩ := receiveCheck_activityOf.1 hf
    rw [frame_bytes_length] at hlen
    omega

/-- Settles O29: 8 bits for each byte, the delimiter and the 8 bytes around the payload included. -/
theorem frameLengthsInBitTimes : Obligations.FrameLengthsInBitTimes := by
  refine ⟨by decide +kernel, by decide, fun f => ⟨?_, ?_⟩⟩
  · rw [frame_cells_length]
    cases f.kind <;> rfl
  · rw [frame_cells_length]
    unfold Frame.lineBits
    omega

end Sys2Proof.Machine
end

section
/-! Frames at their arrival: one that fails the receive checks (R7, R52, R131), and one that is stored in the ring
(R132, R133, R156, R162). -/

namespace Sys2Proof.Machine

section
variable {s u b : State} {cells : List Cell} {f : Frame}

/-! ### The end of a received activity (R139; log 4, log 27) -/

/-- An activity that no start announced begins now (log 27), and stops the backoff counting (R143). -/
theorem activityEnds_values (hr : s.receiving) (n : Nat) :
    (s.activityEnds n).now =
      max s.now ((if s.line.state = .idle then s.now else s.line.since) + (n + 2) * bitTime s.line.rateCode) ∧
    (s.activityEnds n).line = { s.line with state := .idle, since := (s.activityEnds n).now } ∧
    (s.activityEnds n).queue =
      if s.line.state = .idle then s.queue.map fun sl => { sl with counted := 0 } else s.queue := by
  obtain ⟨-, htx⟩ := hr
  by_cases hidle : s.line.state = .idle
  · simp [State.activityEnds, State.ensureActivity, hidle, State.beginActivity, State.lineBecomes, State.reach,
      State.bits, stopCounting, htx]
  · simp [State.activityEnds, State.ensureActivity, hidle, State.lineBecomes, State.reach, State.bits, htx]

/-- The end of an activity frees no slot. -/
theorem activityEnds_kinds (n : Nat) : (s.activityEnds n).queue.map Slot.kind = s.queue.map Slot.kind := by
  unfold State.activityEnds State.ensureActivity
  split
  · simp [State.beginActivity, stopCounting, Function.comp_def, Slot.kind]
  · simp

/-! ### The look at the end of a command that frees no slot (R154) -/

/-- A slot has been freed only if a kind is missing. -/
theorem not_freedSince_of_kinds (h : ∀ sl ∈ b.queue, ∃ o ∈ u.queue, o.kind = sl.kind) : ¬ u.freedSince b := by
  intro hfreed
  obtain ⟨sl, hm, hsl⟩ := List.any_eq_true.1 hfreed
  obtain ⟨o, ho, hkind⟩ := h sl hm
  have hnone : slotOf sl.kind u.queue = none := by simpa using (Bool.and_eq_true_iff.1 hsl).2
  exact slotOf_eq_none.1 hnone o ho hkind

/-- Nothing is asked for where the items of the CLAIM alone have changed, and no CLAIM may be made (R51). -/
theorem lookAfter_of_not_mayClaim (hr : u.releaseItems = b.releaseItems) (hd : u.demandItems = b.demandItems)
    (hc : u.clearItems = b.clearItems) (hclaim : ¬ u.mayClaim) (hfreed : ¬ u.freedSince b) :
    u.lookAfter b false = u := by
  have hmet := met_of_unchanged u b (congrArg (fun x => x.2.1) hr) (congrArg (fun x => x.2.1) hd)
    (congrArg (fun x => x.2.2) hr) (congrArg (fun x => x.2.2) hd)
  have hagent : u.claimAgent = u := if_neg hclaim
  have hchanged : u.lookChanged b = u := by simp [State.lookChanged, hr, hd, hc, hagent]
  have hself : ¬ u.freedSince u := not_freedSince_of_kinds fun sl hm => ⟨sl, hm, rfl⟩
  unfold State.lookAfter
  simp only [hmet, hchanged, hfreed, hself, Bool.false_eq_true, or_self, if_false, ite_self]

/-! ### SUSPECT and the CLAIM (R7, R51, R52) -/

theorem not_mayClaim_of_suspect (h : u.table.suspect = true) : ¬ u.mayClaim := by
  rintro ⟨-, hclear, -⟩
  rw [h] at hclear
  cases hclear

/-- While SUSPECT is set, the look brings no waiting CLAIM. -/
theorem lookAfter_noneWaits_of_suspect (b : State) (freed : Bool) (hsuspect : u.table.suspect = true)
    (hq : noneWaits u.queue .claim) : noneWaits (u.lookAfter b freed).queue .claim := by
  have hclosed : LookClosed fun v => v.table.suspect = true ∧ noneWaits v.queue .claim := by
    refine ⟨fun v p ⟨hv, hw⟩ hp => ⟨by simpa using hv, noneWaits_enqueue hw
        fun hk => not_mayClaim_of_suspect hv ((kind_of_wants hp).2 hk)⟩,
      fun v k _ ⟨hv, hw⟩ => ⟨by simpa using hv, noneWaits_filter hw _⟩, fun v hv => hv⟩
  exact (lookAfter_induction hclosed ⟨hsuspect, hq⟩ b freed).2

@[simp] theorem setSuspect_table (u : State) : u.setSuspect.table = { u.table with suspect := true } := by
  unfold State.setSuspect
  dsimp only
  split <;> simp

theorem setSuspect_noneWaits (h : u.table.suspect = false) : noneWaits u.setSuspect.queue .claim := by
  unfold State.setSuspect
  dsimp only
  rw [if_neg (by simp [h])]
  exact noneWaits_withdrawWaiting _ _

/-- Where no CLAIM is to be withdrawn, the queue stays. -/
theorem setSuspect_queue (h : u.table.suspect = true ∨ noneWaits u.queue .claim) : u.setSuspect.queue = u.queue := by
  unfold State.setSuspect
  dsimp only
  split
  · rfl
  · refine List.filter_eq_self.2 fun sl hm => decide_eq_true fun ⟨hkind, hwaits⟩ => ?_
    exact hwaits (h.resolve_left ‹_› sl hm hkind)

/-! ### A frame that fails the receive checks (R131) -/

theorem exec_frameReceived_of_rejected (hlow : s.resetLow = false) (hr : s.receiving)
    (hf : receiveCheck cells = none) :
    exec (.frameReceived cells) s = .next ((s.activityEnds cells.length).reject.lookAfter s false) := by
  simp only [exec, execFrameReceived, outOfReset_of_released hlow, if_pos hr, hf]

theorem reject_values (u : State) :
    u.reject.table = { u.table with suspect := true } ∧
    u.reject.events = { u.events with
      flags := u.events.flags ||| Event.frameError.bit
      counters := { u.events.counters with frameErrors := min 65535 (u.events.counters.frameErrors + 1) } } := by
  simp [State.reject, State.raise, State.countFrameError, State.withCounters, bump]

theorem reject_noneWaits (h : u.table.suspect = false) : noneWaits u.reject.queue .claim :=
  setSuspect_noneWaits (by simpa using h)

theorem reject_queue (h : u.table.suspect = true ∨ noneWaits u.queue .claim) : u.reject.queue = u.queue := by
  unfold State.reject
  rw [setSuspect_queue (by simpa using h)]
  simp

/-- RELEASE, DEMAND and CLEAR depend on nothing that a rejected frame changes. -/
theorem reject_lookAfter (n : Nat) (hq : (s.activityEnds n).reject.queue = (s.activityEnds n).queue) :
    (s.activityEnds n).reject.lookAfter s false = (s.activityEnds n).reject := by
  obtain ⟨htable, -⟩ := reject_values (s.activityEnds n)
  obtain ⟨hr, hd⟩ := items_of_own_entry (s := s) (u := (s.activityEnds n).reject) (by simp)
    (by rw [htable]; simp [Table.member?, Table.entryAt]) (by simp) (by simp [State.settled])
  have hexpired : ({ s.table with suspect := true } : Table).lowestExpired = s.table.lowestExpired := rfl
  have hc : (s.activityEnds n).reject.clearItems = s.clearItems := by
    simp [State.clearItems, State.settled, htable, hexpired]
  refine lookAfter_of_not_mayClaim hr hd hc (not_mayClaim_of_suspect (by simp [htable]))
    (not_freedSince_of_kinds fun sl hm => ?_)
  rw [hq]
  exact List.mem_map.1 (activityEnds_kinds (s := s) n ▸ List.mem_map_of_mem hm)

theorem noneWaits_activityEnds (n : Nat) (h : noneWaits s.queue .claim) :
    noneWaits (s.activityEnds n).queue .claim := by
  unfold State.activityEnds State.ensureActivity
  split
  · intro sl hm hkind
    obtain ⟨o, ho, rfl⟩ := List.mem_map.1 (by simpa [State.beginActivity, stopCounting] using hm)
    exact h o ho hkind
  · simpa using h

end

/-- Settles O31: the frame's end is `activityEnds`, its rejection `reject`, and with SUSPECT set the look at the end of
the command makes no CLAIM; where none was withdrawn, it does nothing at all. -/
theorem rejectedFramesSetSuspect : Obligations.RejectedFramesSetSuspect := by
  intro s cells hlow hline htx hf
  have hr : s.receiving := ⟨hline.symm, htx⟩
  obtain ⟨hnow, hends, hqueue⟩ := activityEnds_values hr cells.length
  obtain ⟨htable, hevents⟩ := reject_values (s.activityEnds cells.length)
  refine ⟨_, exec_frameReceived_of_rejected hlow hr hf, by simpa using htable, by simpa using hevents,
    by simpa using hnow, by simpa using hends, fun hsuspect => ?_, fun hkept => ?_, ?_⟩
  · exact lookAfter_noneWaits_of_suspect _ _ (by simp [htable]) (reject_noneWaits (by simpa using hsuspect))
  · have hq := reject_queue (u := s.activityEnds cells.length)
      (hkept.imp (by simpa using ·) (noneWaits_activityEnds cells.length))
    rw [reject_lookAfter _ hq, hq, hqueue]
  · simp

section
variable {s u : State} {f : Frame}

/-! ### A frame that is stored (R156, R162) -/

theorem watch_of_not_isolated (h : u.station.state ≠ .isolated) : u.watch f false = u := if_neg fun hw => h hw.1

theorem handOn_parked (hkind : f.kind ≠ .slow) (h : u.station.state = .parked) : u.handOn f false = u := by
  unfold State.handOn State.offer
  rw [if_neg hkind, if_pos h]

/-- A MEMBER whose flow hold is OFF asks for a SLOW at the thirteenth frame. -/
theorem store_asks (hstate : u.station.state = .member) (hflow : u.ring.flow = .off)
    (hfilled : 12 ≤ u.ring.entries.length) :
    (u.store f false).ring.flow = .sending ∧ (u.store f false).queue = enqueue u.now .slow u.queue := by
  have hfull : 12 < (u.ring.entries ++ [(⟨f, false⟩ : RingEntry)]).length := by
    simp
    omega
  unfold State.store State.lookFlow
  rw [if_pos ⟨hstate, hflow, hfull⟩]
  exact ⟨rfl, rfl⟩

/-- Else it asks for nothing. -/
theorem store_quiet (h : u.station.state ≠ .member ∨ u.ring.flow ≠ .off ∨ u.ring.entries.length < 12) :
    u.store f false = u.withRing { u.ring with entries := u.ring.entries ++ [⟨f, false⟩] } := by
  refine if_neg fun ⟨hstate, hflow, hfull⟩ => ?_
  have hfull : 12 < u.ring.entries.length + 1 := by simpa using hfull
  rcases h with h | h | h
  · exact h hstate
  · exact h hflow
  · omega

/-- A request that finds room, or a slot of its kind, takes no other kind out of the queue (R145). -/
theorem enqueue_keeps {q : List Slot} {p : Payload} (now : Time)
    (h : q.length < 4 ∨ ∃ sl ∈ q, sl.kind = p.kind) :
    (∃ sl ∈ enqueue now p q, sl.kind = p.kind) ∧ ∀ sl ∈ q, sl ∈ enqueue now p q ∨ sl.kind = p.kind := by
  cases hslot : slotOf p.kind q with
  | none =>
    have hnone := slotOf_eq_none.1 hslot
    rw [enqueue_of_room now hnone (h.resolve_right fun ⟨sl, hm, hkind⟩ => hnone sl hm hkind)]
    exact ⟨⟨_, List.mem_append_right _ (List.mem_singleton.2 rfl), rfl⟩,
      fun sl hm => .inl (List.mem_append_left _ hm)⟩
  | some o =>
    have hq : enqueue now p q = updateSlot p.kind (Slot.requested p) q := by
      unfold enqueue
      rw [hslot]
    have hkind : o.kind = p.kind := by simpa using List.find?_some hslot
    rw [hq]
    refine ⟨⟨o.requested p, List.mem_map.2 ⟨o, List.mem_of_find?_eq_some hslot, if_pos hkind⟩, requested_kind hkind⟩,
      fun sl hm => ?_⟩
    by_cases hsl : sl.kind = p.kind
    · exact .inr hsl
    · exact .inl (List.mem_map.2 ⟨sl, hm, if_neg hsl⟩)

/-! ### The look after a stored frame -/

/-- No standing condition depends on the frames of other stations in the ring. -/
theorem store_items (n : Nat) (f : Frame) :
    let u := (s.activityEnds n).store f false
    u.releaseItems = s.releaseItems ∧ u.demandItems = s.demandItems ∧ u.clearItems = s.clearItems ∧
    u.claimItems = s.claimItems := by
  simp [State.releaseItems, State.demandItems, State.clearItems, State.claimItems, State.settled, State.gOwn,
    State.dOwn, State.ownMember?, State.own, State.free, State.budget, State.config, State.claimInRing]

theorem store_lookAfter (n : Nat)
    (hkinds : ∀ sl ∈ s.queue, ∃ o ∈ ((s.activityEnds n).store f false).queue, o.kind = sl.kind) :
    ((s.activityEnds n).store f false).lookAfter s false = (s.activityEnds n).store f false := by
  obtain ⟨hr, hd, hc, hm⟩ := store_items (s := s) n f
  exact lookAfter_unchanged _ _ hr hd hc hm (not_freedSince_of_kinds hkinds)

theorem slowAgent_ring_of_filled (h : 6 < u.ring.entries.length) : u.slowAgent.ring = u.ring := by
  unfold State.slowAgent
  rw [if_pos h]
  split <;> simp

theorem lookAgain_ring_of_filled (h : 6 < u.ring.entries.length) : u.lookAgain.ring = u.ring := by
  unfold State.lookAgain
  split
  · simp [slowAgent_ring_of_filled, h]
  · rfl

/-- With more than 6 frames stored a look ends no flow hold (R163). -/
theorem lookAfter_ring_of_filled (b : State) (freed : Bool) (h : 6 < u.ring.entries.length) :
    (u.lookAfter b freed).ring = u.ring := by
  unfold State.lookAfter
  dsimp only
  (repeat' split) <;> simp [lookAgain_ring_of_filled, h]

end

/-- Settles O32: a frame that is stored changes no item, so the look at the end of the command finds at most that the
SLOW asked for has displaced another frame, and then leaves the flow hold; a PARKED station does nothing. -/
theorem validFramesAreStoredInOrder : Obligations.ValidFramesAreStoredInOrder := by
  intro s cells f hlow hbusy htx hf hkind
  have hr : s.receiving := ⟨.inr hbusy, htx⟩
  have hexec := exec_frameReceived_of_valid hlow hr hf
  obtain ⟨hnow, hline, hqueue⟩ := activityEnds_values hr cells.length
  rw [if_neg (by simp [hbusy])] at hnow hqueue
  refine ⟨fun hstate hroom => ?_, fun hparked => ?_⟩
  · have hparked : s.station.state ≠ .parked := by rcases hstate with h | h | h <;> simp [h]
    have hisolated : s.station.state ≠ .isolated := by rcases hstate with h | h | h <;> simp [h]
    rw [handOn_stored hkind (by simpa using hparked) (by simpa using hroom),
      watch_of_not_isolated (by simpa using hisolated)] at hexec
    refine ⟨_, hexec, by simp, by simp, by simp, by simp, by simp, by simp, by simp, by simp, by simp,
      by simpa using hnow, by simpa using hline, by simp, by simp, by simp, by simp, by simp, ?_, ?_, ?_⟩
    · simp [State.store]
    · intro hmember hflow hfilled
      obtain ⟨hsending, hasked⟩ := store_asks (u := s.activityEnds cells.length) (f := f) (by simpa using hmember)
        (by simpa using hflow) (by simpa using hfilled)
      refine ⟨?_, fun hplace => ?_⟩
      · rw [lookAfter_ring_of_filled _ _ (by simp; omega), hsending]
      · rw [hqueue] at hasked
        obtain ⟨⟨o, ho, hslow⟩, hkept⟩ := enqueue_keeps (p := .slow) (s.activityEnds cells.length).now hplace
        rw [← hasked] at ho hkept
        rw [store_lookAfter]
        · exact ⟨⟨o, ho, hslow⟩, hkept⟩
        · exact fun sl hm => (hkept sl hm).elim (fun h => ⟨sl, h, rfl⟩) fun h => ⟨o, ho, hslow.trans h.symm⟩
    · intro hquiet
      have hstore := store_quiet (u := s.activityEnds cells.length) (f := f) (by simpa using hquiet)
      have hkept : ((s.activityEnds cells.length).store f false).queue = s.queue := by
        rw [hstore]
        simpa using hqueue
      rw [store_lookAfter _ fun sl hm => ⟨sl, hkept ▸ hm, rfl⟩]
      refine ⟨?_, hkept⟩
      rw [hstore]
      simp
  · rw [hexec, handOn_parked hkind (by simpa using hparked), lookAfter_of_not_member _ _ _ (by simp [hparked])]
    simp [State.activityEnds, State.ensureActivity, hbusy, State.lineBecomes, State.reach, State.bits, htx,
      State.withLine, State.withNow]

end Sys2Proof.Machine
end

section
/-! The frames of the Transmit Queue that are ON_LINE, and what every operation beside the Line Interface keeps of
them (R144, R145, R149). -/

namespace Sys2Proof.Machine

/-! ### A queue whose slots change in place (R144) -/

/-- Slots that keep their kinds and their ranges make a queue within its slots again. -/
theorem queueOk_map {q : List Slot} {f : Slot → Slot} (h : queueOk q) (hkind : ∀ sl, (f sl).kind = sl.kind)
    (hrange : ∀ sl ∈ q, sl.inRange → (f sl).inRange) : queueOk (q.map f) := by
  obtain ⟨hlen, hkinds, hslots⟩ := h
  refine ⟨by simpa using hlen, ?_, fun sl hm => ?_⟩
  · simpa [Function.comp_def, hkind] using hkinds
  · obtain ⟨o, ho, rfl⟩ := List.mem_map.1 hm
    exact hrange o ho (hslots o ho)

/-- The same for the slot of one kind. -/
theorem queueOk_updateSlot {q : List Slot} {k : Kind} {f : Slot → Slot} (h : queueOk q)
    (hkind : ∀ sl, sl.kind = k → (f sl).kind = k)
    (hrange : ∀ sl ∈ q, sl.kind = k → sl.inRange → (f sl).inRange) : queueOk (updateSlot k f q) := by
  refine queueOk_map h (fun sl => ?_) fun sl hm hsl => ?_
  · split
    · exact (hkind sl ‹_›).trans (Eq.symm ‹_›)
    · rfl
  · split
    · exact hrange sl hm ‹_› hsl
    · exact hsl

theorem queueOk_sublist {q r : List Slot} (h : queueOk q) (hr : r.Sublist q) : queueOk r := by
  obtain ⟨hlen, hkinds, hslots⟩ := h
  exact ⟨hr.length_le.trans hlen, hkinds.sublist (hr.map _), fun sl hm => hslots sl (hr.subset hm)⟩

/-! ### How many slots are ON_LINE (R149) -/

/-- The number of slots that are ON_LINE. -/
def onLines (q : List Slot) : Nat := (q.filter fun sl => sl.state == .onLine).length

theorem onLines_eq_zero {q : List Slot} : onLines q = 0 ↔ ∀ sl ∈ q, sl.state ≠ .onLine := by
  simp [onLines]

theorem onLines_append_fresh (q : List Slot) (now : Time) (p : Payload) :
    onLines (q ++ [Slot.fresh now p]) = onLines q := by
  simp [onLines, Slot.fresh]

theorem onLines_map {q : List Slot} {f : Slot → Slot} (hf : ∀ sl, (f sl).state = sl.state) :
    onLines (q.map f) = onLines q := by
  simp [onLines, List.filter_map, Function.comp_def, hf]

/-- Slots that wait may leave the queue. -/
theorem onLines_filter {q : List Slot} {f : Slot → Bool} (hf : ∀ sl ∈ q, sl.state = .onLine → f sl = true) :
    onLines (q.filter f) = onLines q := by
  unfold onLines
  rw [List.filter_filter]
  congr 1
  refine List.filter_congr fun sl hm => ?_
  by_cases hline : sl.state = .onLine
  · simp [hline, hf sl hm hline]
  · simp [hline]

/-- Of a queue with one slot ON_LINE at most, no other one is. -/
theorem eq_of_onLine {q : List Slot} {sl o : Slot} (h : onLines q ≤ 1) (hm : sl ∈ q) (hsl : sl.state = .onLine)
    (ho : o ∈ q) (hline : o.state = .onLine) : o = sl := by
  have hin : ∀ x ∈ q, x.state = .onLine → x ∈ q.filter fun sl => sl.state == .onLine :=
    fun x hx hs => List.mem_filter.2 ⟨hx, by simp [hs]⟩
  have hslin := hin sl hm hsl
  have hoin := hin o ho hline
  unfold onLines at h
  generalize (q.filter fun sl => sl.state == .onLine) = l at h hslin hoin
  obtain rfl | ⟨a, rfl⟩ : l = [] ∨ ∃ a, l = [a] := by
    rcases l with _ | ⟨a, _ | ⟨b, l⟩⟩
    · exact .inl rfl
    · exact .inr ⟨a, rfl⟩
    · simp at h
  · cases hslin
  · exact (List.mem_singleton.1 hoin).trans (List.mem_singleton.1 hslin).symm

/-- Of different kinds, the slot that a kind frees is the one. -/
theorem eq_of_kind {q : List Slot} {sl o : Slot} (h : (q.map Slot.kind).Nodup) (hm : sl ∈ q) (ho : o ∈ q)
    (hk : o.kind = sl.kind) : o = sl := List.inj_on_of_nodup_map h ho hm hk

theorem onLines_freeSlot_waiting {q : List Slot} {d : Slot} (h : queueSound q) (hd : d ∈ q)
    (hwait : d.state ≠ .onLine) : onLines (freeSlot d.kind q) = onLines q := by
  obtain ⟨⟨-, hkinds, -⟩, -⟩ := h
  refine onLines_filter fun sl hm hline => ?_
  simpa using fun hk => hwait (eq_of_kind hkinds hd hm hk ▸ hline)

/-- A queueing request puts no frame on the line and takes none off it (R145, R146). -/
theorem onLines_enqueue {q : List Slot} (now : Time) (p : Payload) (h : queueSound q) :
    onLines (enqueue now p q) = onLines q := by
  unfold enqueue
  split
  · refine onLines_map fun sl => ?_
    split
    · exact requested_state p sl
    · rfl
  · split
    · exact onLines_append_fresh q now p
    · split
      · rfl
      · rename_i d hd
        rw [onLines_append_fresh, onLines_freeSlot_waiting h (mem_of_displaced hd).1 (waiting_of_displaced hd)]

theorem onLines_withdrawWaiting (s : State) (k : Kind) : onLines (s.withdrawWaiting k).queue = onLines s.queue :=
  onLines_filter fun _ _ hline => by simp [hline]

theorem onLines_withdraw (k : Kind) (q : List Slot) : onLines (withdraw k q) = onLines q := by
  unfold withdraw updateSlot
  rw [onLines_map fun sl => by split <;> rfl]
  exact onLines_filter fun _ _ hline => by simp [hline]

/-- A flush leaves what is on the line (R153). -/
theorem onLines_flush (q : List Slot) : onLines (flush q) = onLines q := by
  simp [flush, onLines, List.filter_map, Function.comp_def, List.filter_filter]

theorem queueSound_flush {q : List Slot} (h : queueSound q) : queueSound (flush q) := by
  have hkept := queueSound_sublist h (List.filter_sublist (l := q) (p := fun sl : Slot => sl.state == .onLine))
  refine ⟨queueOk_map hkept.1 (fun _ => rfl) fun sl _ hsl => ?_, ?_⟩
  · obtain ⟨hattempts, hbackoff, -⟩ := hsl
    exact ⟨hattempts, hbackoff, fun p hp => by cases hp⟩
  · exact (onLines_flush q).trans_le h.2

/-! ### What the operations keep of the queue and the line -/

/-- From `s` to `u` the Line Interface stays, and the queue, within its slots, keeps its frame on the line; LOADING is
not entered. -/
def State.keepsLine (s u : State) : Prop :=
  u.line = s.line ∧ (u.station.state = .loading → s.station.state = .loading) ∧
  (queueSound s.queue → queueSound u.queue ∧ onLines u.queue = onLines s.queue)

theorem State.keepsLine.refl (s : State) : s.keepsLine s := ⟨rfl, id, fun h => ⟨h, rfl⟩⟩

section
variable {s u v : State} (h : s.keepsLine u)
include h

/-- Another queue, the line and the station state staying. -/
theorem State.keepsLine.of_queue
    (hqueue : queueSound u.queue → queueSound v.queue ∧ onLines v.queue = onLines u.queue)
    (hline : v.line = u.line) (hstate : v.station.state = u.station.state) : s.keepsLine v := by
  obtain ⟨hsl, hss, hsq⟩ := h
  refine ⟨hline.trans hsl, fun hv => hss (hstate ▸ hv), fun hq => ?_⟩
  obtain ⟨hu, hcount⟩ := hsq hq
  obtain ⟨hv, hcountv⟩ := hqueue hu
  exact ⟨hv, hcountv.trans hcount⟩

/-- Nothing that the relation reads has changed. -/
theorem State.keepsLine.of_same (hqueue : v.queue = u.queue) (hline : v.line = u.line)
    (hstate : v.station.state = u.station.state) : s.keepsLine v :=
  h.of_queue (fun hu => by rw [hqueue]; exact ⟨hu, rfl⟩) hline hstate

/-- Another station state than LOADING. -/
theorem withStation_keepsLine {x : Station} (hx : x.state ≠ .loading) : s.keepsLine (u.withStation x) := by
  obtain ⟨hline, -, hqueue⟩ := h
  exact ⟨hline, fun hl => absurd hl hx, hqueue⟩

/-! ### Transmit Queue -/

theorem enqueue_keepsLine (p : Payload) : s.keepsLine (u.enqueue p) :=
  h.of_queue (fun hu => ⟨queueSound_enqueue _ p hu, onLines_enqueue _ p hu⟩) (by simp) (by simp)

theorem withdraw_keepsLine (k : Kind) : s.keepsLine (u.withdraw k) :=
  h.of_queue (fun hu => ⟨queueSound_withdraw k hu, onLines_withdraw k _⟩) (by simp) (by simp)

theorem withdrawWaiting_keepsLine (k : Kind) : s.keepsLine (u.withdrawWaiting k) :=
  h.of_queue (fun hu => ⟨queueSound_withdrawWaiting k hu, onLines_withdrawWaiting u k⟩) (by simp) (by simp)

/-- What the look at the end of a command does it does to waiting frames and follow-on values alone. -/
theorem lookAfter_keepsLine (b : State) (freed : Bool) : s.keepsLine (u.lookAfter b freed) := by
  have hclosed : LookClosed s.keepsLine :=
    ⟨fun _ p hw _ => enqueue_keepsLine hw p, fun _ k _ hw => withdrawWaiting_keepsLine hw k,
      fun _ hw => hw.of_same rfl rfl rfl⟩
  exact lookAfter_induction hclosed h b freed

/-! ### Grant Control -/

theorem noticeZero_keepsLine : s.keepsLine u.noticeZero := h.of_same (by simp) (by simp) (by simp)

theorem createLower_keepsLine (c : LowerCause) (n : Nat) : s.keepsLine (u.createLower c n) := by
  refine withdrawWaiting_keepsLine (h.of_same ?_ ?_ ?_) _ <;> simp

theorem lookYield_keepsLine : s.keepsLine u.lookYield := by
  unfold State.lookYield
  split
  · split
    · split
      · exact createLower_keepsLine h _ _
      · exact h
    · split
      · exact h
      · exact h.of_same (by simp) (by simp) (by simp)
  · exact h

theorem lowerApplied_keepsLine (x : Nat) : s.keepsLine (u.lowerApplied x) :=
  noticeZero_keepsLine (lookYield_keepsLine (withdrawWaiting_keepsLine
    (h.of_same (v := (u.withGrant { u.grant with applied := x }).satisfyLower) (by simp) (by simp) (by simp)) _))

theorem cutOff_keepsLine : s.keepsLine u.cutOff := by
  have hcut := withdrawWaiting_keepsLine (h.of_same (v := u.withGrant { u.grant with
    cutoff := true, applied := 0, lower := none }) rfl rfl rfl) .claim
  exact noticeZero_keepsLine (hcut.of_same (by simp) (by simp) (by simp))

theorem isolateLower_keepsLine : s.keepsLine u.isolateLower := by
  unfold State.isolateLower
  split
  · exact h.of_same (by simp) (by simp) (by simp)
  · split
    · exact createLower_keepsLine h _ _
    · dsimp only
      split
      · exact h.of_same rfl rfl rfl
      · exact h.of_same (by simp) (by simp) (by simp)

theorem giveNotices_keepsLine (clear : Bool) : s.keepsLine (u.giveNotices clear) := by
  unfold State.giveNotices
  split
  · exact lookYield_keepsLine (h.of_same (by simp) (by simp) (by simp))
  · split
    · exact h
    · exact lookYield_keepsLine (h.of_same (by simp) (by simp) (by simp))

theorem setSuspect_keepsLine : s.keepsLine u.setSuspect := by
  unfold State.setSuspect
  dsimp only
  split
  · exact h.of_same rfl rfl rfl
  · exact withdrawWaiting_keepsLine (h.of_same rfl rfl rfl) _

theorem setDiverged_keepsLine : s.keepsLine u.setDiverged := by
  unfold State.setDiverged
  dsimp only
  split
  · exact h.of_same rfl rfl rfl
  · exact withdrawWaiting_keepsLine (h.of_same rfl rfl rfl) _

/-! ### Station Controller -/

/-- An entry to a state flushes the queue (R99, R153). -/
theorem enter_keepsLine {x : StationState} (hx : x ≠ .loading) : s.keepsLine (u.enter x) := by
  have hflushed : s.keepsLine (u.withQueue (flush u.queue)) :=
    h.of_queue (fun hu => ⟨queueSound_flush hu, onLines_flush _⟩) rfl rfl
  exact (withStation_keepsLine hflushed (x := Station.entered x) hx).of_same rfl rfl rfl

theorem enterListen_keepsLine : s.keepsLine u.enterListen :=
  withStation_keepsLine (enter_keepsLine h (x := .listen) (by simp)) (by simp)

theorem requestIsolated_keepsLine : s.keepsLine u.requestIsolated := by
  have hentered := enter_keepsLine h (x := .isolated) (by simp)
  unfold State.requestIsolated
  split
  · exact noticeZero_keepsLine (isolateLower_keepsLine (hentered.of_same (by simp) (by simp) (by simp)))
  · exact h

theorem requestBarred_keepsLine : s.keepsLine u.requestBarred := by
  have hentered := enter_keepsLine h (x := .barred) (by simp)
  unfold State.requestBarred
  split
  · exact isolateLower_keepsLine (hentered.of_same (by simp) (by simp) (by simp))
  · exact h

theorem lookFlow_keepsLine : s.keepsLine u.lookFlow := by
  unfold State.lookFlow
  split
  · refine enqueue_keepsLine ?_ _
    exact h.of_same rfl rfl rfl
  · exact h

theorem enterMember_keepsLine : s.keepsLine u.enterMember :=
  lookFlow_keepsLine (withStation_keepsLine h (by simp [Station.entered]))

/-! ### Recount Controller -/

theorem requestRecount_keepsLine (c : Cause) : s.keepsLine (u.requestRecount c) := by
  have hasked := fun p => enqueue_keepsLine h p
  unfold State.requestRecount
  dsimp only
  split
  · exact hasked _
  · refine withdrawWaiting_keepsLine ?_ _
    exact (hasked _).of_same rfl rfl rfl

theorem giveCause_keepsLine (c : Cause) : s.keepsLine (u.giveCause c) := by
  have hpending : s.keepsLine (u.addPending c) := by
    unfold State.addPending
    split
    · exact h
    · exact withdrawWaiting_keepsLine (h.of_same rfl rfl rfl) _
  unfold State.giveCause
  (repeat' split)
  · exact hpending
  · exact requestRecount_keepsLine h c
  · exact requestRecount_keepsLine h c
  · exact requestRecount_keepsLine h c
  · exact h
  · exact h

theorem windowEntry_keepsLine (target : Half) : s.keepsLine (u.windowEntry target) := by
  have hwithdrawn : ∀ w : State, s.keepsLine w → s.keepsLine w.withdrawForWindow := fun w hw =>
    withdraw_keepsLine (withdraw_keepsLine (withdraw_keepsLine (withdraw_keepsLine (withdraw_keepsLine
      (withdraw_keepsLine hw _) _) _) _) _) _
  unfold State.windowEntry
  split
  · exact requestIsolated_keepsLine h
  · have hreported : ∀ w : State, s.keepsLine w → s.keepsLine (w.raise .recountStarted).countRecount :=
      fun w hw => hw.of_same (by simp) (by simp) (by simp)
    refine hreported _ (enqueue_keepsLine (hwithdrawn _ ?_) _)
    exact h.of_same rfl rfl rfl

theorem takeRecount_keepsLine (target : Half) (own : Bool) : s.keepsLine (u.takeRecount target own) := by
  have habsorbed : s.keepsLine u.absorb := by
    unfold State.absorb
    split
    · exact (withdrawWaiting_keepsLine h .recount).of_same rfl rfl rfl
    · exact h
  have hstale : s.keepsLine u.countStale := h.of_same (by simp) (by simp) (by simp)
  have hjudged : s.keepsLine (u.judgeRecount target) := by
    unfold State.judgeRecount
    (repeat' split)
    · exact windowEntry_keepsLine h _
    · exact habsorbed
    · exact windowEntry_keepsLine h _
    · exact hstale
    · exact windowEntry_keepsLine h _
    · exact hstale
  unfold State.takeRecount
  dsimp only
  split
  · exact hjudged.of_same (by simp) (by simp) (by simp)
  · exact hjudged

/-- The close BEACON keeps its place on the line, or leaves the queue waiting (R89, R152). -/
theorem replaceCloseBeacon_keepsLine : s.keepsLine u.replaceCloseBeacon := by
  refine h.of_queue (fun hu => ⟨queueSound_replaceCloseBeacon hu, ?_⟩) (by simp) (by simp)
  unfold State.replaceCloseBeacon
  split
  · rfl
  · rename_i sl hslot
    split
    · exact onLines_map fun o => by split <;> rfl
    · rename_i hwait
      have hkind : sl.kind = .beacon := by simpa using List.find?_some hslot
      have hfree : queueSound (freeSlot .beacon u.queue) := queueSound_sublist hu List.filter_sublist
      refine (onLines_enqueue _ _ hfree).trans ?_
      rw [← hkind]
      exact onLines_freeSlot_waiting hu (List.mem_of_find?_eq_some hslot) hwait

theorem actOnSilence_keepsLine : s.keepsLine u.actOnSilence := by
  unfold State.actOnSilence
  split
  · exact requestIsolated_keepsLine h
  · exact giveCause_keepsLine h _

theorem settle_keepsLine : s.keepsLine u.settle := by
  have hsettled : s.keepsLine u.settleCommon :=
    h.of_same (by simp) (by simp) (by simp [State.settleCommon])
  have hreplaced := replaceCloseBeacon_keepsLine hsettled
  unfold State.settle State.markSilentAtSettle
  split
  · exact actOnSilence_keepsLine (hreplaced.of_same rfl rfl rfl)
  · exact hreplaced

/-! ### Arrival (R131, R132, R156 to R165) -/

theorem watch_keepsLine (f : Frame) (own : Bool) : s.keepsLine (u.watch f own) := by
  unfold State.watch
  split
  · exact requestBarred_keepsLine h
  · exact h

theorem offer_keepsLine (f : Frame) (own : Bool) : s.keepsLine (u.offer f own) := by
  unfold State.offer
  (repeat' split)
  · exact h
  · refine watch_keepsLine (lookFlow_keepsLine ?_) f own
    exact h.of_same rfl rfl rfl
  · have hdropped : s.keepsLine (((u.withRing { u.ring with lost := true }).raise
        .ringOverflow).countRingOverflow.droppedRecount f own) := h.of_same (by simp) (by simp) (by simp)
    unfold State.drop State.lostCause
    dsimp only
    split
    · exact giveCause_keepsLine hdropped _
    · exact hdropped

theorem handOn_keepsLine (f : Frame) (own : Bool) : s.keepsLine (u.handOn f own) := by
  unfold State.handOn
  (repeat' split)
  · exact h
  · exact watch_keepsLine (h.of_same (by simp) (by simp) (by simp)) f own
  · exact offer_keepsLine h f own

theorem reject_keepsLine : s.keepsLine u.reject :=
  setSuspect_keepsLine (h.of_same (by simp) (by simp) (by simp))

/-! ### Own frames (R150, R151, R149) -/

theorem countAbandonment_keepsLine : s.keepsLine u.countAbandonment := by
  unfold State.countAbandonment
  (repeat' split)
  · exact h.of_same rfl rfl rfl
  · exact requestIsolated_keepsLine h
  · exact h

theorem recountAbandoned_keepsLine (sl : Slot) : s.keepsLine (u.recountAbandoned sl) := by
  unfold State.recountAbandoned
  (repeat' split)
  · exact h
  · refine requestRecount_keepsLine ?_ _
    exact h.of_same rfl rfl rfl
  · exact h.of_same rfl rfl rfl

theorem reportCompletion_keepsLine (sl : Slot) : s.keepsLine (u.reportCompletion sl) := by
  have hbeacon : s.keepsLine (if u.takesPart then u.beaconRestarted else u) := by
    split
    · exact h.of_same rfl rfl rfl
    · exact h
  unfold State.reportCompletion
  generalize (if u.takesPart then u.beaconRestarted else u) = w at hbeacon
  split
  · exact h
  · dsimp only
    split
    · exact hbeacon.of_same (by simp) (by simp) (by simp)
    · unfold State.leaveCompleted
      split
      · exact enter_keepsLine hbeacon (by simp)
      · exact hbeacon
    · exact hbeacon

/-! ### The Table Unit (R11 to R24) -/

theorem applyClaim_keepsLine (n : StationNo) (a : Nat) : s.keepsLine (u.applyClaim n a) := by
  unfold State.applyClaim
  dsimp only
  split
  · exact lookYield_keepsLine (h.of_same (by simp) (by simp) (by simp))
  · exact giveNotices_keepsLine (h.of_same (by simp) (by simp) (by simp)) _

theorem applyClear_keepsLine (n : StationNo) : s.keepsLine (u.applyClear n) := by
  have hwithdrawn : ∀ w : State, s.keepsLine w → s.keepsLine (w.withdrawClear n) := by
    refine fun w hw => hw.of_queue (fun hq => ⟨queueSound_sublist hq List.filter_sublist, ?_⟩) rfl rfl
    exact onLines_filter fun _ _ hline => by simp [hline]
  unfold State.applyClear
  dsimp only
  split
  · have hremoved : s.keepsLine (u.withTable (u.table.setEntry n .absent)).nextTsn := h.of_same rfl rfl rfl
    exact (hwithdrawn _ hremoved).of_same (by simp) (by simp) (by simp)
  · exact giveNotices_keepsLine (h.of_same (by simp) (by simp) (by simp)) _

theorem mismatch_keepsLine : s.keepsLine u.mismatch :=
  giveCause_keepsLine ((setDiverged_keepsLine h).of_same (by simp) (by simp) (by simp)) _

theorem compareRoster_keepsLine (n : StationNo) (roster : BitVec 32) : s.keepsLine (u.compareRoster n roster) := by
  have hconfirmed : s.keepsLine (u.withTable (u.table.updateMember n fun m => { m with confirmed := true })) :=
    h.of_same rfl rfl rfl
  unfold State.compareRoster
  dsimp only
  (repeat' split)
  · exact settle_keepsLine hconfirmed
  · exact hconfirmed
  · exact giveCause_keepsLine h _

theorem compareEntry_keepsLine (n : StationNo) (g d : Half) : s.keepsLine (u.compareEntry n g d) := by
  unfold State.compareEntry
  (repeat' split)
  · exact h
  · exact h
  · exact mismatch_keepsLine h

theorem passed_keepsLine (n : StationNo) (b : Body) : s.keepsLine (u.passed n b) := by
  cases b with
  | demand x => exact h.of_same (by simp [State.passed]) (by simp) (by simp [State.passed])
  | claim a => exact applyClaim_keepsLine h n _
  | release x => exact giveNotices_keepsLine (h.of_same (by simp) (by simp) (by simp)) _
  | clear k => exact applyClear_keepsLine h k
  | beacon g d roster x =>
    unfold State.passed
    dsimp only
    split
    · exact compareRoster_keepsLine h _ _
    · exact compareEntry_keepsLine h _ _ _
  | slow => exact h
  | recount => exact h
  | report => exact h

theorem countStale_keepsLine : s.keepsLine u.countStale := h.of_same (by simp) (by simp) (by simp)

theorem compare_keepsLine (f : Frame) : s.keepsLine (u.compare f) := by
  unfold State.compare
  (repeat' split)
  · exact passed_keepsLine (h.of_same (by simp) (by simp) (by simp)) _ _
  · exact mismatch_keepsLine h
  · exact giveCause_keepsLine h _
  · exact countStale_keepsLine h

theorem judge_keepsLine (f : Frame) : s.keepsLine (u.judge f) := by
  have hknown : ∀ w : State, s.keepsLine w →
      s.keepsLine (if u.table.isMember f.sender = true then u.compare f else w) := by
    intro w hw
    split
    · exact compare_keepsLine h f
    · exact hw
  have hstrange : s.keepsLine (u.strangeBeacon f.epoch) := by
    rw [strangeBeacon_eq]
    exact giveCause_keepsLine h _
  unfold State.judge
  cases f.body with
  | report target =>
    dsimp only
    rw [judgeReport_eq]
    cases u.reportCause f.sender target with
    | none => exact countStale_keepsLine h
    | some c => exact giveCause_keepsLine h c
  | slow => exact h
  | recount => exact h
  | beacon => exact hknown _ hstrange
  | _ => exact hknown _ (countStale_keepsLine h)

theorem process_keepsLine (f : Frame) (own : Bool) : s.keepsLine (u.process f own) := by
  have hnoted : s.keepsLine (((u.noteEpochs f).noteSender f.sender).noteHeard f.sender) :=
    h.of_same (by simp) (by simp) (by simp [noteHeard_state])
  unfold State.process
  (repeat' split)
  · exact h
  · exact requestBarred_keepsLine h
  · exact requestBarred_keepsLine h
  · unfold State.dispose
    (repeat' split)
    · exact takeRecount_keepsLine hnoted _ _
    · exact hnoted.of_same (by simp) (by simp) (by simp)
    · exact judge_keepsLine hnoted f
    · exact hnoted

/-! ### The ends of runs, windows and timers -/

theorem runEnds_keepsLine (work : RunWork) : s.keepsLine (u.runEnds work) := by
  have hmember : s.keepsLine (if u.station.state = .listen then u.enterMember else u) := by
    split
    · exact enterMember_keepsLine h
    · exact h
  cases work with
  | demand => exact giveNotices_keepsLine h _
  | clear => exact giveNotices_keepsLine h _
  | close =>
    unfold State.runEnds State.closeEnd
    generalize (if u.station.state = .listen then u.enterMember else u) = w at hmember
    have hlost : ∀ w' : State, s.keepsLine w' → s.keepsLine w'.standingLost := by
      intro w' hw'
      unfold State.standingLost
      split
      · exact giveCause_keepsLine hw' _
      · exact hw'
    have hcheck := giveNotices_keepsLine (enqueue_keepsLine (hlost _ (hmember.of_same (v := w.withRecount
      { w.recount with phase := .check, target := none, checkTimer := some (w.after w.tCheck) }) rfl rfl rfl))
      (.beacon true)) true
    dsimp only
    split
    · exact settle_keepsLine hcheck
    · exact hcheck
  | loneFormation =>
    refine giveNotices_keepsLine (enqueue_keepsLine ?_ _) _
    exact (enterMember_keepsLine h).of_same (by simp) (by simp) (by simp [State.settleCommon])

theorem beginClose_keepsLine : s.keepsLine u.beginClose := by
  unfold State.beginClose
  dsimp only
  split
  · exact h.of_same (by simp) (by simp) (by simp)
  · exact requestIsolated_keepsLine (h.of_same rfl rfl rfl)

theorem decideListening_keepsLine : s.keepsLine u.decideListening := by
  unfold State.decideListening
  dsimp only
  split
  · refine giveCause_keepsLine ?_ _
    exact h.of_same rfl rfl rfl
  · exact h.of_same (by simp) (by simp) (by simp)

theorem guardEnds_keepsLine : s.keepsLine u.guardEnds := by
  unfold State.guardEnds
  dsimp only
  split
  · exact h.of_same rfl rfl rfl
  · refine requestRecount_keepsLine ?_ _
    exact h.of_same rfl rfl rfl

theorem beaconEnds_keepsLine : s.keepsLine u.beaconEnds := by
  unfold State.beaconEnds
  dsimp only
  split
  · exact h.of_same rfl rfl rfl
  · exact enqueue_keepsLine (h.of_same rfl rfl rfl) _

theorem slowEnds_keepsLine : s.keepsLine u.slowEnds := by
  unfold State.slowEnds
  split
  · exact enqueue_keepsLine (h.of_same rfl rfl rfl) _
  · exact h.of_same rfl rfl rfl

end

end Sys2Proof.Machine
end

section
/-! Every step keeps the Transmit Queue within its slots, and one slot ON_LINE exactly while the station transmits
(R144, R145, R149). -/

namespace Sys2Proof.Machine

/-! ### The two invariants together -/

/-- queueInv and lineInv. -/
def State.accessInv (s : State) : Prop := s.queueInv ∧ s.lineInv

/-- The queue is within its slots, one ON_LINE at most. -/
theorem queueSound_of_accessInv {s : State} (h : s.accessInv) : queueSound s.queue := by
  obtain ⟨hq, hcount, -⟩ := h
  refine ⟨hq, hcount.trans_le ?_⟩
  split <;> omega

/-- Of a station that does not transmit no slot is ON_LINE. -/
theorem onLines_of_silent {s : State} (h : s.accessInv) (htx : s.line.tx = .none) : onLines s.queue = 0 := by
  obtain ⟨-, hcount, -⟩ := h
  exact hcount.trans (if_pos htx)

theorem onLines_of_transmitting {s : State} (h : s.accessInv) (htx : s.line.tx ≠ .none) : onLines s.queue = 1 := by
  obtain ⟨-, hcount, -⟩ := h
  exact hcount.trans (if_neg htx)

theorem accessInv_of_silent {s : State} (hq : queueOk s.queue) (hcount : onLines s.queue = 0)
    (htx : s.line.tx = .none) : s.accessInv := by
  refine ⟨hq, ?_, fun h => absurd htx h, fun f hf => ?_, fun _ => htx⟩
  · rw [if_pos htx]
    exact hcount
  · rw [htx] at hf
    cases hf

theorem accessInv_of_transmitting {s : State} (hq : queueOk s.queue) (hcount : onLines s.queue = 1)
    (hline : s.line.state = .busy ∨ s.line.state = .jam) (hsending : ∀ f, s.line.tx = .sending f → s.line.state = .busy)
    (htx : s.line.tx ≠ .none) (hstate : s.station.state ≠ .loading) : s.accessInv := by
  refine ⟨hq, ?_, fun _ => hline, hsending, fun h => absurd h hstate⟩
  rw [if_neg htx]
  exact hcount

/-- What leaves the line alone and the frames on it keeps the invariants. -/
theorem State.keepsLine.accessInv {s t : State} (h : s.keepsLine t) (hs : s.accessInv) : t.accessInv := by
  obtain ⟨hline, hstate, hqueue⟩ := h
  obtain ⟨hq, hcount⟩ := hqueue (queueSound_of_accessInv hs)
  obtain ⟨-, hscount, hbusy, hsending, hloading⟩ := hs
  refine ⟨hq.1, ?_, ?_, ?_, ?_⟩
  · rw [hline]
    exact hcount.trans hscount
  · rwa [hline]
  · rwa [hline]
  · rw [hline]
    exact fun h => hloading (hstate h)

section
variable {s t : State} (h : s.accessInv)
include h

/-- Nothing that the invariants read has changed. -/
theorem State.accessInv.of_same (hqueue : t.queue = s.queue) (hline : t.line = s.line)
    (hstate : t.station.state = s.station.state) : t.accessInv :=
  ((State.keepsLine.refl s).of_same hqueue hline hstate).accessInv h

/-! ### The line (R137 to R141) -/

/-- A line on which the station does not transmit takes any state. -/
theorem lineBecomes_accessInv (x : LineState) (htx : s.line.tx = .none) : (s.lineBecomes x .none).accessInv :=
  accessInv_of_silent (s := s.lineBecomes x .none) h.1 (onLines_of_silent (s := s) h htx) rfl

theorem stopCounting_accessInv : (s.withQueue (stopCounting s.queue)).accessInv := by
  have hkept : s.keepsLine (s.withQueue (stopCounting s.queue)) := by
    refine (State.keepsLine.refl s).of_queue (fun hq => ?_) rfl rfl
    have hcount : onLines (stopCounting s.queue) = onLines s.queue := onLines_map fun _ => rfl
    exact ⟨⟨queueOk_map hq.1 (fun _ => rfl) fun _ _ hsl => hsl, hcount.trans_le hq.2⟩, hcount⟩
  exact hkept.accessInv h

theorem ensureActivity_accessInv (htx : s.line.tx = .none) :
    s.ensureActivity.accessInv ∧ s.ensureActivity.line.tx = .none := by
  unfold State.ensureActivity
  split
  · exact ⟨lineBecomes_accessInv (stopCounting_accessInv h) .busy htx, rfl⟩
  · exact ⟨h, htx⟩

/-- A line in any state but IDLE and OFF may hold another part of the own transmission, its frame sent in BUSY
alone. -/
theorem withLine_accessInv {x : Line} (hsent : s.line.tx ≠ .none) (htx : x.tx ≠ .none)
    (hstate : x.state = .busy ∨ x.state = .jam) (hsending : ∀ f, x.tx = .sending f → x.state = .busy) :
    (s.withLine x).accessInv := by
  have hone := onLines_of_transmitting h hsent
  obtain ⟨hq, -, -, -, hloading⟩ := h
  exact accessInv_of_transmitting hq hone hstate hsending htx fun hl => hsent (hloading hl)

/-! ### Starts and backoff (R143, R148, R149) -/

omit h in
/-- The one slot of kind `k` goes ON_LINE, where none was. -/
theorem onLines_updateSlot_started {q : List Slot} {k : Kind} (hkinds : (q.map Slot.kind).Nodup)
    (hk : k ∈ q.map Slot.kind) (hzero : onLines q = 0) : onLines (updateSlot k Slot.started q) = 1 := by
  have hwait := onLines_eq_zero.1 hzero
  have hcount : (q.filter fun sl => sl.kind == k).length = 1 := by
    rw [← List.countP_eq_length_filter, ← List.count_eq_one_of_mem hkinds hk, List.count, List.countP_map]
    rfl
  unfold onLines updateSlot
  rw [List.filter_map, List.length_map, ← hcount]
  congr 1
  refine List.filter_congr fun sl hm => ?_
  by_cases hsl : sl.kind = k
  · simp [hsl, Slot.started]
  · simp [hsl, hwait sl hm]

/-- R147 allows no frame in LOADING. -/
theorem startAt_accessInv (hidle : s.lineFree) (x : Time) : (s.startAt x).accessInv := by
  unfold State.startAt
  split
  · exact h
  · rename_i sl hsl
    obtain ⟨hm, hcan⟩ := List.mem_filter.1 (List.mem_filter.1 (mem_of_firstSlot hsl)).1
    have hallowed : s.eligible sl.payload = true := by
      simp only [Bool.and_eq_true] at hcan
      exact hcan.1.2
    have hloading : s.station.state ≠ .loading := by
      intro hl
      rw [eligible_iff_allows] at hallowed
      unfold State.allows at hallowed
      dsimp only at hallowed
      split at hallowed <;> simp [hl] at hallowed
    have hzero := onLines_of_silent h hidle.2
    obtain ⟨hq, -⟩ := h
    obtain ⟨-, hkinds, -⟩ := id hq
    have hone := onLines_updateSlot_started (k := sl.kind) hkinds (List.mem_map_of_mem hm) hzero
    refine accessInv_of_transmitting ?_ ?_ (.inl rfl) (fun _ _ => rfl) (by simp [State.startSlot, State.lineBecomes])
      (by simpa using hloading)
    · have hstarted : queueOk (updateSlot sl.kind Slot.started s.queue) :=
        queueOk_updateSlot hq (fun _ ho => ho) fun o _ _ ⟨_, hbackoff, hfollow⟩ =>
          ⟨Nat.min_le_left _ _, hbackoff, fun p hp => ⟨(hfollow p hp).1, rfl⟩⟩
      exact queueOk_map hstarted (fun _ => rfl) fun _ _ ho => ho
    · exact (onLines_map (f := fun o => { o with counted := 0 }) fun _ => rfl).trans hone

omit h in
theorem waited_state (sl : Slot) (hb : sl.state = .backoff) : sl.waited.state ≠ .onLine := by
  unfold Slot.waited
  split <;> simp [hb]

/-- A slot in BACKOFF waits on, or is QUEUED (R143). -/
theorem waited_accessInv {k : Kind} {sl : Slot} (hslot : slotOf k s.queue = some sl) (hb : sl.state = .backoff) :
    (s.withQueue (updateSlot k Slot.waited s.queue)).accessInv := by
  have hm : sl ∈ s.queue := List.mem_of_find?_eq_some hslot
  have hk : sl.kind = k := by simpa using List.find?_some hslot
  have hbackoff : ∀ o ∈ s.queue, o.kind = k → o.state = .backoff := by
    obtain ⟨⟨-, hkinds, -⟩, -⟩ := h
    exact fun o ho hok => eq_of_kind hkinds hm ho (hok.trans hk.symm) ▸ hb
  have hok : queueOk (updateSlot k Slot.waited s.queue) := by
    refine queueOk_updateSlot h.1 (fun o ho => ?_) fun o ho hok ⟨hattempts, hleft, hfollow⟩ => ?_
    · unfold Slot.waited
      split <;> exact ho
    · have hnone : ∀ p, o.followOn ≠ some p := fun p hp => by simp [hbackoff o ho hok] at hfollow; simp [hfollow] at hp
      unfold Slot.waited
      split
      · exact ⟨hattempts, Nat.zero_le _, fun p hp => absurd hp (hnone p)⟩
      · exact ⟨hattempts, (Nat.sub_le _ _).trans hleft, fun p hp => absurd hp (hnone p)⟩
  have hcount : onLines (updateSlot k Slot.waited s.queue) = onLines s.queue := by
    unfold onLines updateSlot
    rw [List.filter_map, List.length_map]
    congr 1
    refine List.filter_congr fun o ho => ?_
    by_cases hok : o.kind = k
    · simp [hok, waited_state o (hbackoff o ho hok), hbackoff o ho hok]
    · simp [hok]
  have hkept : s.keepsLine (s.withQueue (updateSlot k Slot.waited s.queue)) :=
    (State.keepsLine.refl s).of_queue (fun hq => ⟨⟨hok, hcount.trans_le hq.2⟩, hcount⟩) rfl rfl
  exact hkept.accessInv h

/-! ### The end of an own transmission (R149 to R151) -/

omit h in
/-- The slot of kind `sl.kind` freed, none is ON_LINE any longer. -/
theorem freeSlot_silent {q : List Slot} {sl : Slot} (hq : queueSound q) (hslot : onLineSlot q = some sl) :
    queueOk (freeSlot sl.kind q) ∧ onLines (freeSlot sl.kind q) = 0 ∧ (freeSlot sl.kind q).length < 4 := by
  have hm : sl ∈ q := List.mem_of_find?_eq_some hslot
  have hline : sl.state = .onLine := by simpa using List.find?_some hslot
  refine ⟨queueOk_sublist hq.1 List.filter_sublist, onLines_eq_zero.2 fun o ho ho' => ?_,
    (freeSlot_length_lt hm).trans_le hq.1.1⟩
  obtain ⟨hoq, hkind⟩ := List.mem_filter.1 ho
  simp [eq_of_onLine hq.2 hm hline hoq ho'] at hkind

omit h in
/-- Its follow-on value fills it again (R149). -/
theorem freeOnLine_accessInv {s : State} {sl : Slot} (hq : queueSound s.queue) (hslot : onLineSlot s.queue = some sl)
    (htx : s.line.tx = .none) : (s.freeOnLine sl).accessInv := by
  obtain ⟨hok, hzero, hplace⟩ := freeSlot_silent hq hslot
  have hm : sl ∈ s.queue := List.mem_of_find?_eq_some hslot
  unfold State.freeOnLine
  dsimp only
  split
  · exact accessInv_of_silent hok hzero htx
  · rename_i p hp
    have hkind : p.kind = sl.kind := followsKind_of_queueOk hq.1 sl hm p hp
    have hfilled : queueSound (freeSlot sl.kind s.queue ++ [Slot.fresh s.now p]) :=
      queueSound_append_fresh ⟨hok, hzero.trans_le (Nat.zero_le 1)⟩ hplace fun o ho => by
        simpa [hkind] using (List.mem_filter.1 ho).2
    exact accessInv_of_silent hfilled.1 ((onLines_append_fresh _ _ _).trans hzero) htx

omit h in
theorem boundedDraw_lt (draw n : Nat) : boundedDraw draw n < 2 ^ min n 6 := Nat.mod_lt _ (by positivity)

omit h in
/-- A slot tried again waits, with a backoff of less than 64 slots and no follow-on value (R143, R150). -/
theorem backOff_accessInv {s : State} {sl : Slot} (hq : queueSound s.queue) (hslot : onLineSlot s.queue = some sl)
    (htx : s.line.tx = .none) : (s.backOff sl).accessInv := by
  have hm : sl ∈ s.queue := List.mem_of_find?_eq_some hslot
  have hline : sl.state = .onLine := by simpa using List.find?_some hslot
  have hdraw : s.nextDraw sl.attempts ≤ 63 := by
    have hlt : s.nextDraw sl.attempts < 2 ^ min sl.attempts 6 := boundedDraw_lt _ _
    have hle : 2 ^ min sl.attempts 6 ≤ 2 ^ 6 := Nat.pow_le_pow_right (by omega) (Nat.min_le_right _ _)
    omega
  have hkind : ∀ o ∈ s.queue, o.latest.kind = o.kind := fun o ho => kind_of_carried hq ho
  obtain ⟨⟨hlen, hkinds, hslots⟩, hone⟩ := id hq
  refine accessInv_of_silent ?_ ?_ htx
  · refine ⟨by simpa [State.backOff, updateSlot] using hlen, ?_, fun o ho => ?_⟩
    · have hsame : (updateSlot sl.kind (Slot.retried (s.nextDraw sl.attempts)) s.queue).map Slot.kind =
          s.queue.map Slot.kind := by
        unfold updateSlot
        rw [List.map_map]
        refine List.map_congr_left fun o ho => ?_
        dsimp only [Function.comp]
        split
        · exact hkind o ho
        · rfl
      rw [State.backOff, withLine_queue, withQueue_queue, hsame]
      exact hkinds
    · obtain ⟨x, hx, rfl⟩ := List.mem_map.1 ho
      obtain ⟨hattempts, hleft, hfollow⟩ := hslots x hx
      split
      · exact ⟨hattempts, hdraw, fun p hp => by cases hp⟩
      · exact ⟨hattempts, hleft, hfollow⟩
  · refine onLines_eq_zero.2 fun o ho => ?_
    obtain ⟨x, hx, rfl⟩ := List.mem_map.1 ho
    split
    · unfold Slot.retried
      dsimp only
      split <;> simp
    · exact fun hxl => ‹x.kind ≠ sl.kind› (by rw [eq_of_onLine hone hm hline hx hxl])

omit h in
/-- What becomes of the slot whose attempt ended in the jam leaves none ON_LINE (R150). -/
theorem jamOutcome_accessInv {s : State} {sl : Slot} (hq : queueSound s.queue) (hslot : onLineSlot s.queue = some sl)
    (htx : s.line.tx = .none) : (s.jamOutcome sl).accessInv := by
  obtain ⟨hok, hzero, -⟩ := freeSlot_silent hq hslot
  have hfreed : (s.withQueue (freeSlot sl.kind s.queue)).accessInv := accessInv_of_silent hok hzero htx
  unfold State.jamOutcome
  (repeat' split)
  · exact freeOnLine_accessInv hq hslot htx
  · exact hfreed
  · have hcounted : ((s.withQueue (freeSlot sl.kind s.queue)).raise .abandoned).countAbandoned.accessInv :=
      hfreed.of_same (by simp) (by simp) (by simp)
    exact (countAbandonment_keepsLine (recountAbandoned_keepsLine (State.keepsLine.refl _) sl)).accessInv hcounted
  · exact backOff_accessInv hq hslot htx

/-- A station that transmits has its slot ON_LINE. -/
theorem onLineSlot_of_transmitting (htx : s.line.tx ≠ .none) : ∃ sl, onLineSlot s.queue = some sl := by
  have hone := onLines_of_transmitting h htx
  cases hslot : onLineSlot s.queue with
  | some sl => exact ⟨sl, rfl⟩
  | none =>
    have hzero : onLines s.queue = 0 := onLines_eq_zero.2 fun sl hm hline => by
      have hnot := List.find?_eq_none.1 hslot sl hm
      simp [hline] at hnot
    omega

theorem reportJam_accessInv (htx : s.line.tx ≠ .none) : (s.lineBecomes .idle .none).reportJam.accessInv := by
  obtain ⟨sl, hslot⟩ := onLineSlot_of_transmitting h htx
  unfold State.reportJam
  simp only [lineBecomes_frame, hslot]
  exact jamOutcome_accessInv (by simpa using queueSound_of_accessInv h) (by simpa using hslot) (by simp [State.lineBecomes])

theorem complete_accessInv (f : Frame) (htx : s.line.tx ≠ .none) : (s.complete f).accessInv := by
  obtain ⟨sl, hslot⟩ := onLineSlot_of_transmitting h htx
  have hfreed : ((s.lineBecomes .idle .none).freeOnLine sl).accessInv :=
    freeOnLine_accessInv (by simpa using queueSound_of_accessInv h) (by simpa using hslot) rfl
  unfold State.complete
  simp only [lineBecomes_frame, hslot]
  exact (lookAfter_keepsLine (handOn_keepsLine (reportCompletion_keepsLine (State.keepsLine.refl _) sl) f true) _
    _).accessInv hfreed

end

/-! ### Every command -/

/-- The invariants hold of the state that follows, if one does. -/
def accessAfter (o : Host.Outcome State Fault Refusal) : Prop := ∀ t, o = .next t → t.accessInv

theorem accessAfter_next {t : State} (h : t.accessInv) : accessAfter (.next t) := by
  intro u hu
  obtain rfl := Host.Outcome.next.inj hu
  exact h

section
variable {s t : State} (h : s.accessInv)
include h

theorem outOfReset_accessAfter (ht : t.accessInv) : accessAfter (.next (s.outOfReset t)) := by
  refine accessAfter_next ?_
  unfold State.outOfReset
  split
  · exact h
  · exact ht

theorem taken_accessAfter (ht : t.accessInv) : accessAfter (.next (s.taken t)) := by
  refine accessAfter_next ?_
  unfold State.taken
  split
  · exact ht
  · exact h

theorem answer_accessInv (n : Nat) (x : Status) (d : List Byte) : (s.answer n x d).accessInv :=
  h.of_same (by simp) (by simp) (by simp)

/-- A request that answers, and does nothing that the invariants read. -/
theorem answer_accessAfter (n : Nat) (x : Status) (d : List Byte) : accessAfter (.next (s.taken (s.answer n x d))) :=
  taken_accessAfter h (answer_accessInv h n x d)

/-! ### The start of the part -/

omit h in
/-- A silent station with an empty queue. -/
theorem accessInv_of_empty {t : State} (hqueue : t.queue = []) (htx : t.line.tx = .none) : t.accessInv := by
  refine accessInv_of_silent ?_ ?_ htx
  · rw [hqueue]
    exact ⟨by simp, by simp, by simp⟩
  · rw [hqueue]
    rfl

/-- A station that leaves LOADING transmits nothing yet (R137). -/
theorem leaveLoading_accessInv (htx : s.line.tx = .none) : s.leaveLoading.accessInv := by
  have hlisten := (enterListen_keepsLine (State.keepsLine.refl s)).accessInv h
  have hsilent : s.enterListen.line.tx = .none := by simpa using htx
  have hzero := onLines_of_silent hlisten hsilent
  exact accessInv_of_silent (s := s.leaveLoading) hlisten.1 hzero htx

theorem silent_of_reads (hr : s.reads) : s.line.tx = .none := by
  obtain ⟨-, -, -, -, hloading⟩ := h
  exact hloading hr.1

theorem enterFault_accessInv : s.enterFault.accessInv := by
  have hfault := withStation_keepsLine (State.keepsLine.refl s) (x := { s.station with state := .fault }) (by simp)
  exact (hfault.of_same (v := s.enterFault) (by simp) (by simp) (by simp [State.enterFault])).accessInv h

theorem withLoader_accessInv (x : Loader) : (s.withLoader x).accessInv := h.of_same rfl rfl rfl

theorem judgeRecord_accessInv (hr : s.reads) (r : ConfigRecord) : (s.judgeRecord r).accessInv := by
  unfold State.judgeRecord
  have hsilent := silent_of_reads h hr
  split
  · exact leaveLoading_accessInv (withLoader_accessInv (withLoader_accessInv h _) _) hsilent
  · exact enterFault_accessInv (withLoader_accessInv h _)

theorem attemptFails_accessInv : s.attemptFails.accessInv := by
  unfold State.attemptFails
  split
  · exact withLoader_accessInv h _
  · exact enterFault_accessInv (withLoader_accessInv h _)

theorem readAttemptComplete_accessAfter (bytes : ConfigRecord) :
    accessAfter (exec (.readAttemptComplete bytes) s) := by
  refine outOfReset_accessAfter h ?_
  split
  · exact judgeRecord_accessInv h ‹_› bytes
  · exact h

/-- READ_ATTEMPT_FAILED and SCL_HOLD_TIMEOUT do the same (R193). -/
theorem readFails_accessAfter : accessAfter (exec .readAttemptFailed s) ∧ accessAfter (exec .sclHoldTimeout s) := by
  have hfails : (if s.reads then s.attemptFails else s).accessInv := by
    split
    · exact attemptFails_accessInv h
    · exact h
  exact ⟨outOfReset_accessAfter h hfails, outOfReset_accessAfter h hfails⟩

theorem readRetryWaitExpiry_accessAfter : accessAfter (exec .readRetryWaitExpiry s) := by
  refine outOfReset_accessAfter h ?_
  split
  · exact h.of_same (by simp) (by simp) (by simp)
  · exact h

theorem resetRelease_accessAfter (straps : BitVec 5) : accessAfter (exec (.resetRelease straps) s) := by
  refine accessAfter_next ?_
  split
  · exact h.of_same rfl rfl rfl
  · exact h

/-- A line that starts is silent, since transmissions need BUSY or JAM. -/
theorem silent_of_line (hbusy : s.line.state ≠ .busy) (hjam : s.line.state ≠ .jam) : s.line.tx = .none := by
  obtain ⟨-, -, hstates, -⟩ := h
  by_contra htx
  exact (hstates htx).elim hbusy hjam

theorem lineStartupSettled_accessAfter : accessAfter (exec .lineStartupSettled s) := by
  refine outOfReset_accessAfter h ?_
  split
  · rename_i hstarting
    exact lineBecomes_accessInv (h.of_same (t := s.reach _) (by simp) (by simp) (by simp)) _
      (by simpa using silent_of_line h (by simp [hstarting]) (by simp [hstarting]))
  · exact h

/-! ### The Local Port -/

/-- A transaction's begin and end, and its last data byte, concern the port alone (R170). -/
theorem transactions_accessAfter : accessAfter (exec .transactionBegin s) ∧ accessAfter (exec .transactionEnd s) ∧
    accessAfter (exec .lastDataByteSent s) := by
  refine ⟨accessAfter_next ?_, accessAfter_next ?_, accessAfter_next ?_⟩
  · unfold State.sclkFirstFall
    (repeat' split) <;> exact h.of_same rfl rfl rfl
  · split <;> exact h.of_same rfl rfl rfl
  · split
    · exact h.of_same rfl rfl rfl
    · exact h

theorem unknownRequest_accessAfter (code : Byte) : accessAfter (exec (.unknownRequest code) s) := by
  by_cases hcode : assignedCodes.contains code = true
  · rw [exec, execUnknownRequest, if_pos hcode]
    exact accessAfter_next h
  · rw [exec, execUnknownRequest, if_neg hcode]
    exact answer_accessAfter h _ _ _

theorem demandSet_accessInv (v : Nat) : (s.demandSet v).accessInv := by
  have hset : s.keepsLine (s.withGrant { s.grant with demand := v }) := (State.keepsLine.refl s).of_same rfl rfl rfl
  unfold State.demandSet
  dsimp only
  split
  · exact (lookAfter_keepsLine (lowerApplied_keepsLine hset v) _ _).accessInv h
  · exact (lookAfter_keepsLine hset _ _).accessInv h

theorem setDemand_accessAfter (v : Half) : accessAfter (exec (.setDemand v) s) := by
  refine taken_accessAfter h ?_
  (repeat' split)
  · exact answer_accessInv h _ _ _
  · exact answer_accessInv h _ _ _
  · exact answer_accessInv (demandSet_accessInv h _) _ _ _

theorem confirm_accessAfter (v : Half) : accessAfter (exec (.confirm v) s) := by
  refine taken_accessAfter h ?_
  (repeat' split)
  · exact answer_accessInv h _ _ _
  · have hlowered := lowerApplied_keepsLine (State.keepsLine.refl s) v.toNat
    exact answer_accessInv ((lookAfter_keepsLine hlowered s false).accessInv h) _ _ _
  · exact answer_accessInv h _ _ _

theorem clearCutoff_accessAfter : accessAfter (exec .clearCutoff s) := by
  have hcleared : s.keepsLine (s.withGrant { s.grant with cutoff := false }) :=
    (State.keepsLine.refl s).of_same rfl rfl rfl
  refine taken_accessAfter h ?_
  (repeat' split)
  · exact answer_accessInv h _ _ _
  · exact answer_accessInv ((lookAfter_keepsLine hcleared s false).accessInv h) _ _ _
  · exact answer_accessInv h _ _ _

theorem takeSnapshot_accessAfter : accessAfter (exec .takeSnapshot s) := by
  have hsnapshot : s.takeSnapshotNow.accessInv := h.of_same (by simp) (by simp) (by simp)
  have hpending : (s.withTable { s.table with snapPending := true }).accessInv := h.of_same rfl rfl rfl
  refine taken_accessAfter h ?_
  (repeat' split)
  · exact answer_accessInv h _ _ _
  · exact answer_accessInv h _ _ _
  · exact answer_accessInv hsnapshot _ _ _
  · exact answer_accessInv hpending _ _ _

theorem readSummary_accessAfter : accessAfter (exec .readSummary s) := by
  refine taken_accessAfter h ?_
  split <;> exact answer_accessInv h _ _ _

theorem readEntry_accessAfter (n : Byte) : accessAfter (exec (.readEntry n) s) := by
  refine taken_accessAfter h ?_
  (repeat' split) <;> exact answer_accessInv h _ _ _

theorem readConfig_accessAfter : accessAfter (exec .readConfig s) := by
  refine taken_accessAfter h ?_
  split <;> exact answer_accessInv h _ _ _

/-- Flags, mask and counters stand in the Event Unit. -/
theorem withEvents_accessInv (x : EventUnit) : (s.withEvents x).accessInv := h.of_same rfl rfl rfl

theorem clearEvents_accessAfter (mask : Half) : accessAfter (exec (.clearEvents mask) s) := by
  refine taken_accessAfter h ?_
  split
  · exact answer_accessInv h _ _ _
  · exact answer_accessInv (withEvents_accessInv h _) _ _ _

theorem setMask_accessAfter (mask : Half) : accessAfter (exec (.setMask mask) s) := by
  refine taken_accessAfter h ?_
  split
  · exact answer_accessInv h _ _ _
  · exact answer_accessInv (withEvents_accessInv h _) _ _ _

theorem clearCounters_accessAfter : accessAfter (exec .clearCounters s) :=
  taken_accessAfter h (answer_accessInv (withEvents_accessInv h _) _ _ _)

theorem leave_accessAfter : accessAfter (exec .leave s) := by
  have hasked := requestRecount_keepsLine (State.keepsLine.refl s) .leave
  refine taken_accessAfter h ?_
  (repeat' split)
  · exact answer_accessInv h _ _ _
  · exact answer_accessInv h _ _ _
  · exact answer_accessInv ((lookAfter_keepsLine hasked s false).accessInv h) _ _ _
  · exact answer_accessInv h _ _ _

theorem join_accessAfter : accessAfter (exec .join s) := by
  refine taken_accessAfter h ?_
  split
  · exact answer_accessInv ((enterListen_keepsLine (State.keepsLine.refl s)).accessInv h) _ _ _
  · exact answer_accessInv h _ _ _

theorem restart_accessAfter : accessAfter (exec .restart s) := by
  refine taken_accessAfter h ?_
  split
  · refine answer_accessInv (leaveLoading_accessInv (accessInv_of_empty ?_ ?_) ?_) _ _ _ <;> rfl
  · exact answer_accessInv h _ _ _

/-! ### The share line -/

theorem reach_accessInv (x : Time) : (s.reach x).accessInv := h.of_same (by simp) (by simp) (by simp)

theorem lineActivityStart_accessAfter : accessAfter (exec .lineActivityStart s) := by
  refine outOfReset_accessAfter h ?_
  (repeat' split)
  · rename_i hidle
    have hsilent := silent_of_line h (by simp [hidle]) (by simp [hidle])
    exact lineBecomes_accessInv (stopCounting_accessInv h) .busy hsilent
  · rename_i hstarting
    have hsilent := silent_of_line h (by simp [hstarting]) (by simp [hstarting])
    exact accessInv_of_silent h.1 (onLines_of_silent h hsilent) hsilent
  · exact h

theorem frameReceived_accessAfter (cells : List Cell) : accessAfter (exec (.frameReceived cells) s) := by
  refine outOfReset_accessAfter h ?_
  split
  · rename_i hr
    obtain ⟨hactive, htx⟩ := ensureActivity_accessInv h hr.2
    have hends : (s.activityEnds cells.length).accessInv := lineBecomes_accessInv (reach_accessInv hactive _) _ htx
    split
    · exact (lookAfter_keepsLine (reject_keepsLine (State.keepsLine.refl _)) _ _).accessInv hends
    · exact (lookAfter_keepsLine (handOn_keepsLine (State.keepsLine.refl _) _ _) _ _).accessInv hends
  · exact h

theorem slotStart_accessAfter : accessAfter (exec .slotStart s) := by
  refine outOfReset_accessAfter h ?_
  (repeat' split)
  · exact h
  · exact startAt_accessInv h ‹_› _
  · exact h

theorem backoffSlotExpiry_accessAfter (k : Kind) : accessAfter (exec (.backoffSlotExpiry k) s) := by
  refine outOfReset_accessAfter h ?_
  (repeat' split)
  · exact h
  · rename_i sl hslot hcond
    exact waited_accessInv (reach_accessInv h (s.backoffDue sl)) (by simpa using hslot) hcond.2
  · exact h

theorem readBackMismatch_accessAfter : accessAfter (exec .readBackMismatch s) := by
  refine outOfReset_accessAfter h ?_
  split
  · rename_i hf
    have hbusy : s.line.state = .busy := by
      obtain ⟨-, -, -, hsending, -⟩ := h
      exact hsending _ hf
    exact withLine_accessInv h (by simp [hf]) (by simp) (.inl hbusy) (by simp)
  · exact h

theorem lineStateJam_accessAfter : accessAfter (exec .lineStateJam s) := by
  refine outOfReset_accessAfter h ?_
  split
  · rename_i hr
    obtain ⟨hactive, htx⟩ := ensureActivity_accessInv h hr.2
    exact lineBecomes_accessInv (reach_accessInv hactive _) _ htx
  · split
    · rename_i htx
      exact withLine_accessInv (reach_accessInv h _) (by simp [htx]) (by simp) (.inr rfl) (by simp)
    · rename_i htx
      exact withLine_accessInv h (by simp [htx]) (by simp) (.inr rfl) (by simp)
    · exact h

theorem jamDriveEnd_accessAfter : accessAfter (exec .jamDriveEnd s) := by
  refine outOfReset_accessAfter h ?_
  split
  · rename_i htx
    have hstate : s.line.state = .busy ∨ s.line.state = .jam := by
      obtain ⟨-, -, hstates, -⟩ := h
      exact hstates (by simp [htx])
    exact withLine_accessInv (reach_accessInv h _) (by simp [htx]) (by simp) hstate (by simp)
  · exact h

theorem endOfJam_accessAfter : accessAfter (exec .endOfJam s) := by
  refine outOfReset_accessAfter h ?_
  split
  · split
    · rename_i htx
      exact (lookAfter_keepsLine (State.keepsLine.refl _) _ _).accessInv (reportJam_accessInv h (by simp [htx]))
    · exact lineBecomes_accessInv h _ ‹_›
    · exact h
  · exact h

theorem ownFrameCompletion_accessAfter : accessAfter (exec .ownFrameCompletion s) := by
  refine outOfReset_accessAfter h ?_
  split
  · rename_i hf
    exact complete_accessInv (reach_accessInv h _) _ (by simp [hf])
  · exact h

/-! ### The Table Unit -/

theorem takeFrame_accessAfter : accessAfter (exec .takeFrame s) := by
  refine outOfReset_accessAfter h ?_
  split
  · split
    · exact h
    · rename_i e rest _
      have htaken : s.keepsLine (s.withRing { s.ring with entries := rest }) :=
        (State.keepsLine.refl s).of_same rfl rfl rfl
      exact (lookAfter_keepsLine (process_keepsLine htaken _ _) _ _).accessInv h
  · exact h

theorem engineRunComplete_accessAfter : accessAfter (exec .engineRunComplete s) := by
  refine outOfReset_accessAfter h ?_
  split
  · exact h
  · rename_i r _
    have hdone : s.keepsLine ((s.reach r.due).completeRun r) :=
      (State.keepsLine.refl s).of_same (by simp) (by simp) (by simp)
    exact (lookAfter_keepsLine (runEnds_keepsLine hdone _) _ _).accessInv h

theorem closeBegin_accessAfter : accessAfter (exec .closeBegin s) := by
  refine outOfReset_accessAfter h ?_
  split
  · exact (beginClose_keepsLine (State.keepsLine.refl s)).accessInv h
  · exact h

theorem endOfListening_accessAfter : accessAfter (exec .endOfListening s) := by
  refine outOfReset_accessAfter h ?_
  split
  · exact (decideListening_keepsLine (State.keepsLine.refl s)).accessInv h
  · exact h

theorem snapshotTaken_accessAfter : accessAfter (exec .snapshotTaken s) := by
  refine outOfReset_accessAfter h ?_
  split
  · exact h.of_same (by simp) (by simp) (by simp)
  · exact h

/-! ### Timers -/

omit h in
theorem reach_keepsLine (s : State) (x : Time) : s.keepsLine (s.reach x) :=
  (State.keepsLine.refl s).of_same (by simp) (by simp) (by simp)

theorem windowTimerExpiry_accessAfter : accessAfter (exec .windowTimerExpiry s) := by
  refine outOfReset_accessAfter h ?_
  split
  · exact h
  · exact h.of_same (by simp) (by simp) (by simp)

theorem checkTimerExpiry_accessAfter : accessAfter (exec .checkTimerExpiry s) := by
  refine outOfReset_accessAfter h ?_
  split
  · exact h
  · rename_i x _
    have hstopped : s.keepsLine ((s.reach x).withRecount { s.recount with checkTimer := none }) :=
      (reach_keepsLine s x).of_same rfl rfl rfl
    exact (lookAfter_keepsLine (giveCause_keepsLine hstopped _) _ _).accessInv h

theorem guardTimerExpiry_accessAfter : accessAfter (exec .guardTimerExpiry s) := by
  refine outOfReset_accessAfter h ?_
  split
  · exact h
  · exact (lookAfter_keepsLine (guardEnds_keepsLine (reach_keepsLine s _)) _ _).accessInv h

theorem listenTimerExpiry_accessAfter : accessAfter (exec .listenTimerExpiry s) := by
  refine outOfReset_accessAfter h ?_
  split
  · exact h
  · exact h.of_same (by simp) (by simp) (by simp)

theorem beaconTimerExpiry_accessAfter : accessAfter (exec .beaconTimerExpiry s) := by
  refine outOfReset_accessAfter h ?_
  split
  · exact h
  · exact (beaconEnds_keepsLine (reach_keepsLine s _)).accessInv h

theorem memberSilent_accessAfter (n : StationNo) : accessAfter (exec (.memberSilent n) s) := by
  refine outOfReset_accessAfter h ?_
  (repeat' split)
  · exact h
  · rename_i m _ _
    refine (lookAfter_keepsLine (actOnSilence_keepsLine ?_) _ _).accessInv h
    exact (reach_keepsLine s (s.silentMoment m)).of_same rfl rfl rfl
  · exact h

theorem isolationHoldExpiry_accessAfter : accessAfter (exec .isolationHoldExpiry s) := by
  refine outOfReset_accessAfter h ?_
  split
  · exact h
  · exact (enterListen_keepsLine (reach_keepsLine s _)).accessInv h

theorem ghostTimerExpiry_accessAfter (n : StationNo) : accessAfter (exec (.ghostTimerExpiry n) s) := by
  refine outOfReset_accessAfter h ?_
  (repeat' split)
  · exact h
  · exact h
  · rename_i x _
    refine (lookAfter_keepsLine ?_ _ _).accessInv h
    exact (reach_keepsLine s x).of_same rfl rfl rfl

theorem lowerRequestDeadline_accessAfter : accessAfter (exec .lowerRequestDeadline s) := by
  refine outOfReset_accessAfter h ?_
  split
  · exact h
  · exact (lookAfter_keepsLine (cutOff_keepsLine (reach_keepsLine s _)) _ _).accessInv h

theorem ownSlowTimerExpiry_accessAfter : accessAfter (exec .ownSlowTimerExpiry s) := by
  refine outOfReset_accessAfter h ?_
  split
  · exact h
  · exact (lookAfter_keepsLine (slowEnds_keepsLine (reach_keepsLine s _)) _ _).accessInv h

theorem deferralExpiry_accessAfter : accessAfter (exec .deferralExpiry s) := by
  refine outOfReset_accessAfter h ?_
  split
  · exact h
  · exact h.of_same (by simp) (by simp) (by simp)

/-! ### The step -/

theorem exec_accessAfter (i : Instr) : accessAfter (exec i s) := by
  cases i with
  | powerReset => exact accessAfter_next (accessInv_of_empty rfl rfl)
  | resetRelease straps => exact resetRelease_accessAfter h straps
  | readAttemptComplete bytes => exact readAttemptComplete_accessAfter h bytes
  | readAttemptFailed => exact (readFails_accessAfter h).1
  | sclHoldTimeout => exact (readFails_accessAfter h).2
  | readRetryWaitExpiry => exact readRetryWaitExpiry_accessAfter h
  | lineStartupSettled => exact lineStartupSettled_accessAfter h
  | transactionBegin => exact (transactions_accessAfter h).1
  | transactionEnd => exact (transactions_accessAfter h).2.1
  | unknownRequest code => exact unknownRequest_accessAfter h code
  | status => exact answer_accessAfter h _ _ _
  | setDemand v => exact setDemand_accessAfter h v
  | confirm v => exact confirm_accessAfter h v
  | clearCutoff => exact clearCutoff_accessAfter h
  | takeSnapshot => exact takeSnapshot_accessAfter h
  | readSummary => exact readSummary_accessAfter h
  | readEntry n => exact readEntry_accessAfter h n
  | readEvents => exact answer_accessAfter h _ _ _
  | clearEvents mask => exact clearEvents_accessAfter h mask
  | setMask mask => exact setMask_accessAfter h mask
  | readCounters => exact answer_accessAfter h _ _ _
  | clearCounters => exact clearCounters_accessAfter h
  | leave => exact leave_accessAfter h
  | join => exact join_accessAfter h
  | restart => exact restart_accessAfter h
  | readConfig => exact readConfig_accessAfter h
  | lineActivityStart => exact lineActivityStart_accessAfter h
  | frameReceived cells => exact frameReceived_accessAfter h cells
  | takeFrame => exact takeFrame_accessAfter h
  | engineRunComplete => exact engineRunComplete_accessAfter h
  | windowTimerExpiry => exact windowTimerExpiry_accessAfter h
  | closeBegin => exact closeBegin_accessAfter h
  | listenTimerExpiry => exact listenTimerExpiry_accessAfter h
  | endOfListening => exact endOfListening_accessAfter h
  | snapshotTaken => exact snapshotTaken_accessAfter h
  | checkTimerExpiry => exact checkTimerExpiry_accessAfter h
  | guardTimerExpiry => exact guardTimerExpiry_accessAfter h
  | beaconTimerExpiry => exact beaconTimerExpiry_accessAfter h
  | memberSilent n => exact memberSilent_accessAfter h n
  | isolationHoldExpiry => exact isolationHoldExpiry_accessAfter h
  | ghostTimerExpiry n => exact ghostTimerExpiry_accessAfter h n
  | lowerRequestDeadline => exact lowerRequestDeadline_accessAfter h
  | ownSlowTimerExpiry => exact ownSlowTimerExpiry_accessAfter h
  | deferralExpiry => exact deferralExpiry_accessAfter h
  | slotStart => exact slotStart_accessAfter h
  | backoffSlotExpiry k => exact backoffSlotExpiry_accessAfter h k
  | readBackMismatch => exact readBackMismatch_accessAfter h
  | endOfJam => exact endOfJam_accessAfter h
  | ownFrameCompletion => exact ownFrameCompletion_accessAfter h
  | lineStateJam => exact lineStateJam_accessAfter h
  | jamDriveEnd => exact jamDriveEnd_accessAfter h
  | lastDataByteSent => exact (transactions_accessAfter h).2.2

theorem step_accessAfter : accessAfter (step s) := by
  unfold step
  split
  · refine accessAfter_next ?_
    unfold State.idle
    split <;> exact h.of_same rfl rfl rfl
  · rename_i c rest _
    have hrest : (s.withPending rest).accessInv := h.of_same rfl rfl rfl
    exact exec_accessAfter hrest c

end

/-- Settles O56: the operations of the blocks keep the frame on the line, and the commands of the Line Interface put one
there or take it off together with the own transmission. -/
theorem stepsKeepTheQueueWithinItsSlots : Obligations.StepsKeepTheQueueWithinItsSlots :=
  fun _ _ hqueue hline hstep => step_accessAfter ⟨hqueue, hline⟩ _ hstep

end Sys2Proof.Machine
end

section
/-! The share line's own commands: its start, activities, backoff slots, collisions, and the start of a frame (R137 to
R143, R147 to R149). -/

namespace Sys2Proof.Machine

/-! ### The slot of a kind, in a queue of different kinds (R144) -/

section
variable {q : List Slot} {sl : Slot} (hkinds : (q.map Slot.kind).Nodup) (hm : sl ∈ q)
include hkinds hm

theorem slotOf_mem : slotOf sl.kind q = some sl := by
  cases hslot : slotOf sl.kind q with
  | none => exact absurd rfl (slotOf_eq_none.1 hslot sl hm)
  | some o =>
    have hkind : o.kind = sl.kind := by simpa using List.find?_some hslot
    rw [eq_of_kind hkinds hm (List.mem_of_find?_eq_some hslot) hkind]

/-- A change of the slot of kind `sl.kind` is one of `sl`. -/
theorem updateSlot_mem (f : Slot → Slot) : updateSlot sl.kind f q = q.map fun o => if o = sl then f o else o := by
  refine List.map_congr_left fun o ho => ?_
  by_cases hsl : o = sl
  · simp [hsl]
  · rw [if_neg hsl, if_neg fun hk => hsl (eq_of_kind hkinds hm ho hk)]

end

/-! ### Start, activities and backoff slots (R137, R138, R142, R143) -/

theorem exec_lineStartupSettled {s : State} (hlow : s.resetLow = false) (hstarting : s.line.state = .starting) :
    exec .lineStartupSettled s = .next ((s.reach (s.line.since + s.bits 2)).lineBecomes .idle .none) := by
  rw [exec, execLineStartupSettled, outOfReset_of_released hlow, if_pos hstarting]

theorem exec_lineActivityStart {s : State} (hlow : s.resetLow = false) (hidle : s.line.state = .idle) :
    exec .lineActivityStart s = .next s.beginActivity := by
  rw [exec, execLineActivityStart, outOfReset_of_released hlow, if_pos hidle]

/-- Settles O30: the start ends after 2 bit times of released line, and an activity begins on the idle one. -/
theorem activityStopsTheCounts : Obligations.ActivityStopsTheCounts :=
  ⟨fun _ hlow hstarting => ⟨_, exec_lineStartupSettled hlow hstarting, rfl⟩,
    fun _ hlow hidle => exec_lineActivityStart hlow hidle⟩

theorem backoffDue_eq (s : State) (sl : Slot) : s.backoffDue sl =
    s.line.since + (10 + 4 * sl.payload.lineClass + 64 * (sl.counted + 1)) * bitTime s.line.rateCode := by
  simp only [State.backoffDue, State.gapEnd, State.bits, gapBits, Nat.add_mul, Nat.add_assoc]

/-- Settles O37: the expiry finds the slot of its kind, and takes one backoff slot off it. -/
theorem backoffSlotsCountDown : Obligations.BackoffSlotsCountDown := by
  intro s sl hlow hidle htx hkinds hm hbackoff
  rw [exec, execBackoffSlotExpiry, outOfReset_of_released hlow, slotOf_mem hkinds hm]
  dsimp only
  rw [if_pos ⟨⟨hidle, htx⟩, hbackoff⟩, updateSlot_mem hkinds hm, backoffDue_eq]
  have hwaited : (s.queue.map fun o => if o = sl then o.waited else o) = s.queue.map fun o =>
      if o = sl then
        if sl.backoffLeft ≤ 1 then { o with state := .queued, backoffLeft := 0, counted := 0 }
        else { o with backoffLeft := o.backoffLeft - 1, counted := o.counted + 1 }
      else o := by
    refine List.map_congr_left fun o _ => ?_
    by_cases ho : o = sl
    · simp only [ho, if_true, Slot.waited]
    · simp only [ho, if_false]
  rw [hwaited]
  rfl

/-! ### Collisions (R140, R141) -/

section
variable {s : State} (hlow : s.resetLow = false)
include hlow

/-- An activity of another station that has driven the line for 2 bit times (R141); one on a line still IDLE begins now
(log 27). -/
theorem exec_lineStateJam_heard (hr : s.receiving) : exec .lineStateJam s =
    .next ((s.ensureActivity.reach s.ensureActivity.jamMoment).lineBecomes .jam .none) := by
  rw [exec, execLineStateJam, outOfReset_of_released hlow, if_pos hr]

/-- The own jam, still driven, or driven to its end. -/
theorem exec_lineStateJam_own (hbusy : s.line.state = .busy) :
    (∀ till, s.line.tx = .jamming till →
      exec .lineStateJam s = .next ((s.reach s.jamMoment).lineBecomes .jam (.jamming till))) ∧
    (s.line.tx = .jammed → exec .lineStateJam s = .next (s.lineBecomes .jam .jammed)) := by
  refine ⟨fun till htx => ?_, fun htx => ?_⟩ <;>
    rw [exec, execLineStateJam, outOfReset_of_released hlow, if_neg (by simp [State.receiving, htx]), hbusy, htx]

end

/-- Settles O38: the line is in JAM 2 bit times after the activity began, whoever drives it, and the drive of the own
jam lasts 8. -/
theorem collisionsJamTheLine : Obligations.CollisionsJamTheLine := by
  intro s hlow
  refine ⟨fun f htx => ?_, fun till hbusy htx => ?_, fun hidle htx => ?_, fun hbusy htx => ?_, fun till htx => ?_⟩
  · rw [exec, execReadBackMismatch, outOfReset_of_released hlow, htx]
    rfl
  · rcases htx with htx | ⟨-, htx⟩
    · refine ⟨_, (exec_lineStateJam_own hlow hbusy).1 till htx, ?_⟩
      simp [State.lineBecomes, State.reach, State.jamMoment, State.bits, State.withLine, State.withNow, htx]
    · refine ⟨_, exec_lineStateJam_heard hlow ⟨.inr hbusy, htx⟩, ?_⟩
      simp [State.ensureActivity, State.lineBecomes, State.reach, State.jamMoment, State.bits, State.withLine,
        State.withNow, hbusy, htx]
  · refine ⟨_, exec_lineStateJam_heard hlow ⟨.inl hidle, htx⟩, ?_⟩
    simp [State.ensureActivity, State.beginActivity, stopCounting, State.lineBecomes, State.reach, State.jamMoment,
      State.bits, State.withLine, State.withQueue, State.withNow, hidle, htx]
  · rw [(exec_lineStateJam_own hlow hbusy).2 htx]
    simp [State.lineBecomes, State.withLine, htx]
  · rw [exec, execJamDriveEnd, outOfReset_of_released hlow, htx]
    rfl

/-! ### The choice among the slots that may start (R147, R148) -/

/-- The first slot is the one that is before every other one and that none is before. -/
theorem firstSlot_eq {q : List Slot} {sl : Slot} (hm : sl ∈ q)
    (hfirst : ∀ o ∈ q, o ≠ sl → sl.before o = true ∧ o.before sl = false) : firstSlot q = some sl := by
  induction q with
  | nil => cases hm
  | cons a q ih =>
    have hrest : ∀ o ∈ q, o ≠ sl → sl.before o = true ∧ o.before sl = false :=
      fun o ho => hfirst o (List.mem_cons_of_mem a ho)
    rw [firstSlot]
    by_cases ha : a = sl
    · subst ha
      cases hq : firstSlot q with
      | none => rfl
      | some o =>
        dsimp only
        split
        · rename_i hbefore
          by_cases ho : o = a
          · rw [ho]
          · rw [(hrest o (mem_of_firstSlot hq) ho).2] at hbefore
            cases hbefore
        · rfl
    · rw [ih ((List.mem_cons.1 hm).resolve_left (Ne.symm ha)) hrest]
      exact if_pos (hfirst a (List.mem_cons_self ..) ha).1

/-- Class, age and standing put `a` before `b` (R148). -/
def Slot.precedes (a b : Slot) : Prop :=
  a.payload.lineClass < b.payload.lineClass ∨ a.payload.lineClass = b.payload.lineClass ∧
    (a.age < b.age ∨ a.age = b.age ∧ a.payload.standing < b.payload.standing)

theorem before_iff_precedes (a b : Slot) : a.before b = true ↔ a.precedes b := by
  simp [Slot.before, Slot.precedes]

theorem not_precedes_of_precedes {a b : Slot} (h : a.precedes b) : ¬ b.precedes a := by
  have hasymm : ∀ c d x y m n : Nat, c < d ∨ c = d ∧ (x < y ∨ x = y ∧ m < n) →
      ¬ (d < c ∨ d = c ∧ (y < x ∨ y = x ∧ n < m)) := by omega
  exact hasymm _ _ _ _ _ _ h

/-- A slot can start once its gap has run: it is QUEUED, R147 allows it, and no lower class is in BACKOFF (R148). -/
theorem mem_startable {s : State} {sl : Slot} : sl ∈ s.startable ↔ sl ∈ s.queue ∧ sl.state = .queued ∧
    s.allows sl.payload ∧ ∀ p ∈ s.queue, p.state = .backoff → sl.payload.lineClass ≤ p.payload.lineClass := by
  have hheld : notHeldBack s.queue sl = true ↔
      ∀ p ∈ s.queue, p.state = .backoff → sl.payload.lineClass ≤ p.payload.lineClass := by
    simp [notHeldBack, imp_iff_not_or]
  simp only [State.startable, List.mem_filter, Bool.and_eq_true, decide_eq_true_eq, eligible_iff_allows, hheld,
    and_assoc]

/-- A startable slot whose gap has run starts the choice now. -/
theorem startMoment_now {s : State} {sl : Slot} (hm : sl ∈ s.startable) (hgap : s.gapEnd sl ≤ s.now) :
    s.startMoment = some s.now := by
  have hmem : s.gapEnd sl ∈ s.startable.map s.gapEnd := List.mem_map_of_mem hm
  unfold State.startMoment
  cases hmin : (s.startable.map s.gapEnd).min? with
  | none => simp [List.min?_eq_none_iff.1 hmin] at hmem
  | some t =>
    have hle : t ≤ s.gapEnd sl := (List.min?_eq_some_iff.1 hmin).2 _ hmem
    simp [Nat.max_eq_left (hle.trans hgap)]

/-! ### The start (R126, R149) -/

theorem exec_slotStart {s : State} (hlow : s.resetLow = false) : exec .slotStart s =
    .next (if s.lineFree then s.startMoment.elim s s.startAt else s) := by
  rw [exec, execSlotStart, outOfReset_of_released hlow]
  cases s.startMoment <;> rfl

theorem startAt_of_chosen {s : State} {t : Time} {sl : Slot} (h : s.chosenAt t = some sl) :
    s.startAt t = (s.reach t).startSlot sl := by
  unfold State.startAt
  rw [h]

theorem reach_now (s : State) : s.reach s.now = s := by
  simp [State.reach, State.withNow]

/-- What starts has been chosen among the startable slots. -/
theorem startable_of_chosen {s : State} {t : Time} {sl : Slot} (h : s.chosenAt t = some sl) : sl ∈ s.startable :=
  (List.mem_filter.1 (mem_of_firstSlot h)).1

/-- A slot that does not start keeps all but its count of backoff slots. -/
theorem startSlot_keeps {s : State} {sl o : Slot} (hkinds : (s.queue.map Slot.kind).Nodup) (hm : sl ∈ s.queue)
    (ho : o ∈ s.queue) (hne : o ≠ sl) : { o with counted := 0 } ∈ (s.startSlot sl).queue := by
  have hstarted : (s.startSlot sl).queue =
      stopCounting (s.queue.map fun o => if o = sl then o.started else o) := by
    rw [← updateSlot_mem hkinds hm]
    rfl
  rw [hstarted, stopCounting, List.map_map]
  exact List.mem_map.2 ⟨o, ho, by simp [hne]⟩

/-- The state after the start of slot `sl`: its frame on the line, one more attempt, and no backoff counting. -/
theorem startSlot_eq {s : State} {sl : Slot} (hkinds : (s.queue.map Slot.kind).Nodup) (hm : sl ∈ s.queue) :
    s.startSlot sl = { s with
      line := { s.line with
        state := .busy, since := s.now, tx := .sending ⟨s.own, s.table.epoch, s.table.tsn, s.formBody sl.payload⟩ }
      queue := s.queue.map fun o =>
        if o = sl then { o with state := .onLine, attempts := min 16 (o.attempts + 1), counted := 0 }
        else { o with counted := 0 } } := by
  have hqueue : stopCounting (updateSlot sl.kind Slot.started s.queue) = s.queue.map fun o =>
      if o = sl then { o with state := .onLine, attempts := min 16 (o.attempts + 1), counted := 0 }
      else { o with counted := 0 } := by
    rw [updateSlot_mem hkinds hm, stopCounting, List.map_map]
    refine List.map_congr_left fun o _ => ?_
    dsimp only [Function.comp]
    split <;> rfl
  rw [State.startSlot, hqueue]
  rfl

theorem formBody_kind (s : State) (p : Payload) : (s.formBody p).kind = p.kind := by
  cases p <;> rfl

/-- Settles O36: SLOT_START runs the choice at the moment at which a gap has run, `firstSlot` chooses by `Slot.before`,
and a slot that was not chosen only stops counting. -/
theorem slotStartSendsTheChosenFrame : Obligations.SlotStartSendsTheChosenFrame := by
  refine ⟨fun s hlow hkinds => ⟨_, exec_slotStart hlow, ?_⟩, ?_⟩
  · have hstays : (∀ sl ∈ s.queue, ¬ (sl.state = .queued ∧ s.allows sl.payload) →
        ∃ o ∈ s.queue, o = { sl with counted := o.counted }) ∧
        ((∀ sl ∈ s.queue, ¬ (sl.state = .queued ∧ s.allows sl.payload)) → s = s) :=
      ⟨fun sl hm _ => ⟨sl, hm, rfl⟩, fun _ => rfl⟩
    by_cases hfree : s.lineFree
    · rw [if_pos hfree]
      cases hmoment : s.startMoment with
      | none => exact hstays
      | some t =>
        cases hchosen : s.chosenAt t with
        | none => simpa only [Option.elim_some, State.startAt, hchosen] using hstays
        | some c =>
          obtain ⟨hcm, hcqueued, hcallows, -⟩ := mem_startable.1 (startable_of_chosen hchosen)
          simp only [Option.elim_some, startAt_of_chosen hchosen]
          refine ⟨fun o ho hnot => ⟨_, startSlot_keeps (by simpa using hkinds) (by simpa using hcm)
              (by simpa using ho) ?_, rfl⟩,
            fun hnone => absurd ⟨hcqueued, hcallows⟩ (hnone c hcm)⟩
          rintro rfl
          exact hnot ⟨hcqueued, hcallows⟩
    · rw [if_neg hfree]
      exact hstays
  · intro s sl hlow hidle htx hkinds hm ready hready hbest
    have hgap : ∀ o, s.gapEnd o = s.line.since + (10 + 4 * o.payload.lineClass) * bitTime s.line.rateCode :=
      fun _ => rfl
    have hiff : ∀ o, (o ∈ s.startable.filter fun o => decide (s.gapEnd o ≤ s.now)) ↔ o ∈ s.queue ∧ ready o := by
      intro o
      rw [List.mem_filter, mem_startable, decide_eq_true_eq, hgap]
      simp only [ready, and_assoc]
    obtain ⟨hstartable, hran⟩ := List.mem_filter.1 ((hiff sl).2 ⟨hm, hready⟩)
    have hchosen : s.chosenAt s.now = some sl := by
      refine firstSlot_eq ((hiff sl).2 ⟨hm, hready⟩) fun o ho hne => ?_
      obtain ⟨hoq, hor⟩ := (hiff o).1 ho
      have hprecedes : sl.precedes o := hbest o hoq hor hne
      refine ⟨(before_iff_precedes sl o).2 hprecedes, ?_⟩
      rw [← Bool.not_eq_true, before_iff_precedes]
      exact not_precedes_of_precedes hprecedes
    refine ⟨s.formBody sl.payload, ?_, formBody_kind s sl.payload, ?_⟩
    · rw [exec_slotStart hlow, if_pos ⟨hidle, htx⟩, startMoment_now hstartable (by simpa using hran),
        Option.elim_some, startAt_of_chosen hchosen, reach_now, startSlot_eq hkinds hm]
    · refine ⟨fun _ hp => ?_, fun _ hp => ?_, fun _ hp => ?_, fun _ hp => ?_, fun _ hp => ?_, fun _ _ hp => ?_,
        fun _ _ _ _ _ hp => ?_⟩ <;> rw [hp] <;> rfl

end Sys2Proof.Machine
end

section
/-! The end of an own attempt: the slot that was ON_LINE, and the jam's end (R141, R143, R150, R151, R153, R154). -/

namespace Sys2Proof.Machine

/-! ### The slot that is ON_LINE (R149, R153) -/

/-- Of a queue of different kinds `sl` is the one slot that is ON_LINE. -/
structure OnLineAlone (q : List Slot) (sl : Slot) : Prop where
  kinds : (q.map Slot.kind).Nodup
  mem : sl ∈ q
  state : sl.state = .onLine
  only : ∀ o ∈ q, o.state = .onLine → o = sl

section
variable {q : List Slot} {sl : Slot} (h : OnLineAlone q sl)
include h

theorem OnLineAlone.onLineSlot_eq : onLineSlot q = some sl := by
  cases hslot : onLineSlot q with
  | none =>
    have hnot := List.find?_eq_none.1 hslot sl h.mem
    simp [h.state] at hnot
  | some o =>
    have hline : o.state = .onLine := by simpa using List.find?_some hslot
    rw [h.only o (List.mem_of_find?_eq_some hslot) hline]

theorem OnLineAlone.queueSound (hq : queueOk q) : queueSound q := by
  have hnodup : (q.filter fun o => o.state == .onLine).Nodup := h.kinds.of_map.sublist List.filter_sublist
  refine ⟨hq, (hnodup.subperm (l₂ := [sl]) fun o ho => ?_).length_le⟩
  obtain ⟨hm, hline⟩ := List.mem_filter.1 ho
  simpa using h.only o hm (by simpa using hline)

/-- The others stay when it is freed. -/
theorem OnLineAlone.mem_freeSlot {o : Slot} (ho : o ∈ q) (hne : o ≠ sl) : o ∈ freeSlot sl.kind q :=
  List.mem_filter.2 ⟨ho, by simpa using fun hk => hne (eq_of_kind h.kinds h.mem ho hk)⟩

/-- A flushed slot leaves the queue without a report (R153). -/
theorem OnLineAlone.not_freedSince {u b : State} (hflushed : sl.flushed = true) (hb : b.queue = q)
    (hu : ∀ o ∈ freeSlot sl.kind q, ∃ x ∈ u.queue, x.kind = o.kind) : ¬ u.freedSince b := by
  intro hfreed
  obtain ⟨o, ho, hgone⟩ := List.any_eq_true.1 hfreed
  rw [Bool.and_eq_true_iff] at hgone
  obtain ⟨hnot, hnone⟩ := hgone
  have hne : o ≠ sl := by
    rintro rfl
    simp [hflushed] at hnot
  obtain ⟨x, hx, hkind⟩ := hu o (h.mem_freeSlot (hb ▸ ho) hne)
  exact slotOf_eq_none.1 (by simpa using hnone) x hx hkind

end

/-- The queue without the slot `sl`, its follow-on value a new frame (R149). -/
def refilled (now : Time) (sl : Slot) (q : List Slot) : List Slot :=
  freeSlot sl.kind q ++ (sl.followOn.map (Slot.fresh now)).toList

theorem freeOnLine_eq (s : State) (sl : Slot) : s.freeOnLine sl = s.withQueue (refilled s.now sl s.queue) := by
  unfold State.freeOnLine refilled
  cases sl.followOn with
  | none => simp
  | some p => rfl

/-! ### The look at the end of a command that leaves the table alone (R154) -/

section
variable {u b : State} (hloader : u.loader = b.loader) (htable : u.table = b.table) (hgrant : u.grant = b.grant)
include hloader htable hgrant

/-- A slot that has been freed lets all blocks look again. -/
theorem lookAfter_freed_of_same : u.lookAfter b true = u.lookAgain := by
  refine lookAfter_freed u b (by rw [hgrant]) (by rw [hgrant]) ?_ ?_ <;>
    simp [State.gOwn, State.dOwn, State.ownMember?, State.own, hloader, htable]

/-- With no slot freed nothing is asked for: an own CLAIM that has joined the ring only forbids another (log 9). -/
theorem lookAfter_of_same (hrecount : u.recount = b.recount) (hstate : u.station.state = b.station.state)
    (hring : b.ring.entries ⊆ u.ring.entries) (hfreed : ¬ u.freedSince b) : u.lookAfter b false = u := by
  have hsettled : u.settled ↔ b.settled := by simp [State.settled, hstate, hrecount]
  obtain ⟨hr, hd⟩ := items_of_own_entry hloader (by rw [htable]) hgrant hsettled
  have hc : u.clearItems = b.clearItems := by simp [State.clearItems, hsettled, htable]
  by_cases hclaim : u.claimInRing
  · refine lookAfter_of_not_mayClaim hr hd hc ?_ hfreed
    rintro ⟨-, -, -, -, -, -, -, -, -, -, hnone, -⟩
    exact hnone hclaim
  · have hbefore : ¬ b.claimInRing := fun hb => hclaim <| by
      obtain ⟨e, he, hown⟩ := List.any_eq_true.1 hb
      exact List.any_eq_true.2 ⟨e, hring he, hown⟩
    refine lookAfter_unchanged u b hr hd hc ?_ hfreed
    simp [State.claimItems, State.gOwn, State.dOwn, State.ownMember?, State.own, State.free, State.budget,
      State.config, hsettled, hclaim, hbefore, hloader, htable, hgrant, hrecount]

end

/-! ### The end of jam (R141, R150) -/

/-- The line is IDLE, and the collision counted. -/
def State.jamOver (s : State) : State := (s.lineBecomes .idle .none).countCollision

theorem exec_endOfJam_heard {s : State} (hlow : s.resetLow = false) (hjam : s.line.state = .jam)
    (htx : s.line.tx = .none) : exec .endOfJam s = .next (s.lineBecomes .idle .none) := by
  rw [exec, execEndOfJam, outOfReset_of_released hlow, if_pos hjam, htx]

section
variable {s : State} {sl : Slot} (hlow : s.resetLow = false) (hjam : s.line.state = .jam)
  (htx : s.line.tx = .jammed) (h : OnLineAlone s.queue sl)
include hlow hjam htx h

/-- An own attempt that ended in the jam: what becomes of its slot, and the look that follows. -/
theorem exec_endOfJam_own :
    exec .endOfJam s = .next ((s.jamOver.jamOutcome sl).lookAfter s sl.freedByJam) := by
  rw [exec, execEndOfJam, outOfReset_of_released hlow, if_pos hjam, htx]
  have hslot := h.onLineSlot_eq
  simp only [State.reportJam, lineBecomes_frame, hslot, State.jamFrees, Option.any_some]
  rfl

/-- A flushed slot is freed, and its follow-on value fills it again (R153, log 13). -/
theorem endOfJam_flushed (hflushed : sl.flushed = true) :
    exec .endOfJam s = .next (s.jamOver.withQueue (refilled s.now sl s.queue)) := by
  have hfrees : sl.freedByJam = false := by simp [Slot.freedByJam, hflushed]
  have hnow : s.jamOver.now = s.now := by simp [State.jamOver]
  have hqueue : s.jamOver.queue = s.queue := by simp [State.jamOver]
  rw [exec_endOfJam_own hlow hjam htx h, hfrees, State.jamOutcome, if_pos hflushed, freeOnLine_eq, hnow, hqueue]
  exact congrArg _ (lookAfter_of_same (b := s) rfl rfl rfl rfl rfl (List.Subset.refl _)
    (h.not_freedSince hflushed rfl fun o ho => ⟨o, List.mem_append_left _ ho, rfl⟩))

/-- A finishing slot is freed (R152). -/
theorem endOfJam_finishing (hflushed : sl.flushed = false) (hfinishing : sl.finishing = true) :
    exec .endOfJam s = .next (s.jamOver.withQueue (freeSlot sl.kind s.queue)).lookAgain := by
  have hfrees : sl.freedByJam = true := by simp [Slot.freedByJam, hflushed, hfinishing]
  have hqueue : s.jamOver.queue = s.queue := by simp [State.jamOver]
  rw [exec_endOfJam_own hlow hjam htx h, hfrees, State.jamOutcome, if_neg (by simp [hflushed]), if_pos hfinishing,
    hqueue]
  exact congrArg _ (lookAfter_freed_of_same (b := s) rfl rfl rfl)

/-- A slot at its sixteenth attempt, RELEASE excepted, is abandoned (R151). -/
theorem endOfJam_abandoned (hflushed : sl.flushed = false) (hfinishing : sl.finishing = false)
    (hattempts : sl.attempts = 16) (hkind : sl.kind ≠ .release) :
    exec .endOfJam s = .next ((s.jamOver.abandon sl).lookAfter s true) := by
  have hfrees : sl.freedByJam = true := by simp [Slot.freedByJam, hflushed, hattempts, hkind]
  rw [exec_endOfJam_own hlow hjam htx h, hfrees, State.jamOutcome, if_neg (by simp [hflushed]),
    if_neg (by simp [hfinishing]), if_pos ⟨hkind, hattempts⟩]

/-- Any other slot is tried again, and nothing asked for (R150, R154). -/
theorem endOfJam_retried (hq : queueOk s.queue) (hflushed : sl.flushed = false) (hfinishing : sl.finishing = false)
    (hmore : sl.attempts < 16 ∨ sl.kind = .release) : exec .endOfJam s = .next (s.jamOver.backOff sl) := by
  have hnot : ¬ (sl.kind ≠ .release ∧ sl.attempts = 16) := by
    rintro ⟨hkind, hattempts⟩
    rcases hmore with hmore | hmore
    · omega
    · exact hkind hmore
  have hfrees : sl.freedByJam = false := by
    simp only [Slot.freedByJam, hflushed, hfinishing]
    simpa using hnot
  rw [exec_endOfJam_own hlow hjam htx h, hfrees, State.jamOutcome, if_neg (by simp [hflushed]),
    if_neg (by simp [hfinishing]), if_neg hnot]
  have hkinds : ∀ o ∈ s.queue, ∃ x ∈ (s.jamOver.backOff sl).queue, x.kind = o.kind := by
    intro o ho
    refine ⟨_, List.mem_map.2 ⟨o, by simpa [State.jamOver] using ho, rfl⟩, ?_⟩
    split
    · exact kind_of_carried (h.queueSound hq) ho
    · rfl
  exact congrArg _ (lookAfter_of_same (b := s) rfl rfl rfl rfl rfl (List.Subset.refl _)
    (not_freedSince_of_kinds hkinds))

end

/-! ### A slot abandoned (R73, R108, R151) -/

/-- The slot freed, and the abandonment reported and counted. -/
def State.slotAbandoned (s : State) (sl : Slot) : State :=
  ((s.jamOver.withQueue (freeSlot sl.kind s.queue)).raise .abandoned).countAbandoned

@[simp] theorem slotAbandoned_frame (s : State) (sl : Slot) :
    (s.slotAbandoned sl).now = s.now ∧ (s.slotAbandoned sl).loader = s.loader ∧
    (s.slotAbandoned sl).line = s.jamOver.line ∧ (s.slotAbandoned sl).queue = freeSlot sl.kind s.queue ∧
    (s.slotAbandoned sl).ring = s.ring ∧ (s.slotAbandoned sl).table = s.table ∧
    (s.slotAbandoned sl).grant = s.grant ∧ (s.slotAbandoned sl).recount = s.recount ∧
    (s.slotAbandoned sl).station = s.station := by
  simp [State.slotAbandoned, State.jamOver]

theorem countAbandonment_first {u : State} (hpart : u.takesPart) (hnone : u.station.abandonments = 0) :
    u.countAbandonment = u.withStation { u.station with abandonments := 1 } := by
  rw [State.countAbandonment, if_pos hpart, if_pos hnone]

theorem countAbandonment_second {u : State} (hpart : u.takesPart) (hsecond : u.station.abandonments ≠ 0) :
    u.countAbandonment = u.enterIsolated := by
  rw [State.countAbandonment, if_pos hpart, if_neg hsecond, requestIsolated_of_takesPart hpart]

theorem abandon_eq (s : State) (sl : Slot) :
    s.jamOver.abandon sl = ((s.slotAbandoned sl).recountAbandoned sl).countAbandonment := by
  have hqueue : s.jamOver.queue = s.queue := by simp [State.jamOver]
  rw [State.abandon, hqueue, State.slotAbandoned]

theorem cause?_eq_none {p : Payload} (h : p.kind ≠ .recount) : p.cause? = none := by
  cases p with
  | recount => exact absurd rfl h
  | _ => rfl

theorem kind_of_cause? {p : Payload} {c : Cause} (h : p.cause? = some c) : p.kind = .recount := by
  cases p with
  | recount => rfl
  | _ => cases h

/-- What an entry to ISOLATED leads to depends, of the events, on the flag of LOWER_REQUEST alone. -/
theorem isolatedFrom_of_flag {s t v : State} (h : v.isolatedFrom t) (hgrant : v.grant = s.grant)
    (hloader : v.loader = s.loader) (htable : v.table = s.table) (hring : v.ring = s.ring)
    (hflag : v.events.flagSet .lowerRequest ↔ s.events.flagSet .lowerRequest) : s.isolatedFrom t := by
  unfold State.isolatedFrom State.clearedFrom State.loweredToNothing at h ⊢
  simp only [State.config, hgrant, hloader, htable, hring, hflag] at h ⊢
  exact h

section
variable {s : State} {sl : Slot}

/-- The first abandonment of a frame that is no RECOUNT counts, and asks for nothing (R108). -/
theorem abandon_other (hq : queueSound s.queue) (hm : sl ∈ s.queue) (hkind : sl.kind ≠ .recount) (hpart : s.takesPart)
    (hnone : s.station.abandonments = 0) : s.jamOver.abandon sl =
      (s.slotAbandoned sl).withStation { s.station with abandonments := 1 } := by
  have hcause : sl.latest.cause? = none := cause?_eq_none (by rwa [Slot.latest, kind_of_carried hq hm])
  have hno : (s.slotAbandoned sl).recountAbandoned sl = s.slotAbandoned sl := by
    rw [State.recountAbandoned, hcause]
  rw [abandon_eq, hno, countAbandonment_first (by simpa [State.takesPart] using hpart) (by simpa using hnone)]
  simp

/-- The RECOUNT that follows an abandoned one. -/
theorem recountAbandoned_eq {c : Cause} (hpart : s.takesPart) (hcause : sl.latest.cause? = some c) :
    (s.slotAbandoned sl).recountAbandoned sl =
      ((s.slotAbandoned sl).setRequested false).requestRecount c := by
  rw [State.recountAbandoned, hcause]
  exact if_pos (by simpa [State.takesPart] using hpart)

/-- The second abandonment in a row isolates the station (R108). -/
theorem abandon_isolates (hpart : s.takesPart) (hsecond : s.station.abandonments ≠ 0) :
    s.isolatedFrom (s.jamOver.abandon sl) ∧ (s.jamOver.abandon sl).events.flagSet .abandoned := by
  have habandon : s.jamOver.abandon sl = ((s.slotAbandoned sl).recountAbandoned sl).enterIsolated := by
    rw [abandon_eq, countAbandonment_second (by simpa [State.takesPart] using hpart) (by simpa using hsecond)]
  have hflags : ∀ e, ((s.slotAbandoned sl).recountAbandoned sl).events.flagSet e ↔
      e = .abandoned ∨ s.events.flagSet e := by
    intro e
    rw [recountAbandoned_frame _ sl |>.2.2.2.2.2.2.2.2.2.2.2.1]
    exact raise_flagSet (s.jamOver.withQueue (freeSlot sl.kind s.queue)) .abandoned e
  rw [habandon]
  refine ⟨isolatedFrom_of_flag (enterIsolated_isolatedFrom _) (by simp) (by simp) (by simp) (by simp)
    ((hflags .lowerRequest).trans (or_iff_right (by simp))), ?_⟩
  · have hkept := isolateLower_keeps_flag ((((s.slotAbandoned sl).recountAbandoned sl).enter .isolated).raise .isolated)
      .abandoned ((raise_flagSet _ _ _).2 (.inr (by simpa using (hflags .abandoned).2 (.inl rfl))))
    simpa [State.enterIsolated] using hkept

end

/-- An abandoned RECOUNT is asked for again, and stands in the queue as a new frame at the end of the command (R73). -/
theorem abandon_recount {s : State} {sl : Slot} {c : Cause} (h : OnLineAlone s.queue sl) (hq : queueOk s.queue)
    (hpart : s.takesPart) (hnone : s.station.abandonments = 0) (hcause : sl.latest.cause? = some c) :
    let t := (s.jamOver.abandon sl).lookAfter s true
    t.station = { s.station with abandonments := 1 } ∧ t.events = (s.slotAbandoned sl).events ∧
    t.recount = { s.recount with requested := true } ∧ t.table = s.table ∧ t.grant = s.grant ∧
    t.line = s.jamOver.line ∧ noneWaits t.queue .claim ∧
    ∃ o ∈ t.queue, o.kind = .recount ∧ o.state = .queued ∧ o.attempts = 0 ∧
      ∀ x, s.recount.highest = some x → o.payload = .recount (x + 1) c := by
  have hkind : sl.kind = .recount := (kind_of_carried (h.queueSound hq) h.mem).symm.trans (kind_of_cause? hcause)
  set v := (s.slotAbandoned sl).setRequested false with hv
  have hqueue : v.queue = freeSlot sl.kind s.queue := by
    simp [hv, State.setRequested]
  have hsound : queueSound v.queue := hqueue ▸ queueSound_sublist (h.queueSound hq) List.filter_sublist
  have hno : ∀ o ∈ v.queue, o.kind ≠ .recount := by
    intro o ho
    rw [hqueue] at ho
    simpa [hkind] using (List.mem_filter.1 ho).2
  have hleave : ¬ v.leaveQueued := by
    intro hleave
    obtain ⟨o, ho, hl⟩ := List.any_eq_true.1 hleave
    exact hno o ho (kind_of_isLeave hsound ho (by simpa using hl))
  have habandon : s.jamOver.abandon sl = (v.requestRecount c).withStation { s.station with abandonments := 1 } := by
    rw [abandon_eq, recountAbandoned_eq hpart hcause]
    have hstation : (v.requestRecount c).station = s.station := by simp [hv, State.setRequested]
    rw [countAbandonment_first (by simpa [State.takesPart, hstation] using hpart) (by rwa [hstation]), hstation]
  have hfresh := fresh_mem_requestRecount c hsound (slotOf_eq_none.2 hno)
  rw [if_neg hleave] at hfresh
  intro t
  have ht : t = ((v.requestRecount c).withStation { s.station with abandonments := 1 }).lookAfter s true := by
    rw [← habandon]
  rw [ht]
  refine ⟨by simp, ?_, ?_, ?_, ?_, ?_, ?_, _,
    mem_lookAfter_recount _ _ (requestRecount_carries c hsound).1 hfresh rfl, rfl, rfl, rfl, fun x hx => ?_⟩
  · simp [hv, State.setRequested]
  · simp [hv, State.setRequested]
  · simp [hv, State.setRequested]
  · simp [hv, State.setRequested]
  · simp [hv, State.setRequested]
  · exact lookAfter_noneWaits_claim _ _ (by simp [State.claimHeld]) (requestRecount_noneWaits_of_new c rfl)
  · have hhighest : v.recount.highest = some x := by
      simpa [hv, State.setRequested, State.slotAbandoned, State.jamOver] using hx
    simp [Slot.fresh, State.nextTarget, hhighest]

/-- Settles O39: what the end of jam does with its slot, by the rows of R150 and R151, each with the state that the
command leaves. -/
theorem endOfJamDecidesTheSlot : Obligations.EndOfJamDecidesTheSlot := by
  intro s sl hlow hjam
  refine ⟨fun htx => ?_, fun htx hq hm hline honly => ?_⟩
  · rw [exec_endOfJam_heard hlow hjam htx]
    simp [State.lineBecomes, State.withLine, htx]
  · have h : OnLineAlone s.queue sl := ⟨hq.2.1, hm, hline, honly⟩
    intro ended others abandoned
    refine ⟨fun hflushed => endOfJam_flushed hlow hjam htx h hflushed,
      fun hflushed hfinishing => endOfJam_finishing hlow hjam htx h hflushed hfinishing,
      fun hflushed hfinishing hattempts hkind hpart => ?_, fun hflushed hfinishing hmore => ?_⟩
    · have hexec := endOfJam_abandoned hlow hjam htx h hflushed hfinishing hattempts hkind
      refine ⟨fun hother hnone => ?_, fun c hnone hcause => ?_, fun hsecond => ?_⟩
      · rw [hexec, abandon_other (h.queueSound hq) hm hother hpart hnone]
        exact congrArg _ (lookAfter_freed_of_same (b := s) rfl rfl rfl)
      · exact ⟨_, hexec, abandon_recount h hq hpart hnone hcause⟩
      · obtain ⟨hisolated, hflag⟩ := abandon_isolates (sl := sl) hpart hsecond
        have hstate : (s.jamOver.abandon sl).station.state = .isolated := by rw [hisolated.1]
        rw [lookAfter_of_not_member _ _ _ (by simp [hstate])] at hexec
        exact ⟨_, hexec, hisolated, by simp [State.jamOver], hflag⟩
    · refine ⟨s.jamOver.nextDraw sl.attempts, Nat.le_sub_one_of_lt (boundedDraw_lt _ _), ?_⟩
      rw [endOfJam_retried hlow hjam htx h hq hflushed hfinishing hmore, State.backOff]
      have hqueue : s.jamOver.queue = s.queue := by simp [State.jamOver]
      rw [hqueue, updateSlot_mem h.kinds hm]
      rfl

end Sys2Proof.Machine
end

section
/-! The completion of an own frame: its slot, its loopback and what it leads to (R93, R106, R108, R115, R134, R149,
R153, R154, R156 to R163). -/

namespace Sys2Proof.Machine

/-! ### The loopback of an own frame (R132, R156 to R159, R162) -/

section
variable {u : State} {f : Frame}

/-- An own SLOW is not honoured, and a PARKED station stores nothing. -/
theorem handOn_own_silent (h : f.kind = .slow ∨ u.station.state = .parked) : u.handOn f true = u := by
  unfold State.handOn State.offer
  rcases h with h | h
  · rw [if_pos h, if_pos rfl]
  · by_cases hslow : f.kind = .slow
    · rw [if_pos hslow, if_pos rfl]
    · rw [if_neg hslow, if_pos h]

section
variable (hkind : f.kind ≠ .slow) (hparked : u.station.state ≠ .parked)
include hkind hparked

/-- An own frame is no duplicate: the watch minds its digest alone. -/
theorem handOn_own_stored (hroom : u.ring.entries.length < 16)
    (hwatch : u.station.state ≠ .isolated ∨ ∀ d, f.body.digest? = some d → d = u.digest) :
    u.handOn f true = u.store f true := by
  unfold State.handOn State.offer
  rw [if_neg hkind, if_neg hparked, if_pos hroom]
  refine if_neg fun ⟨hisolated, hbad⟩ => ?_
  rcases hwatch with hwatch | hwatch
  · exact hwatch (by simpa using hisolated)
  · rcases hbad with ⟨-, hown⟩ | hconflict
    · cases hown
    · obtain ⟨d, hd, hne⟩ := (Option.any_eq_true _ _).1 hconflict
      exact of_decide_eq_true hne (by simpa [State.digest] using hwatch d hd)

theorem handOn_own_dropped (hfull : 16 ≤ u.ring.entries.length) : u.handOn f true = u.drop f true := by
  unfold State.handOn State.offer
  rw [if_neg hkind, if_neg hparked, if_neg (by omega)]

end

/-- The loopback joins the ring. -/
def State.looped (u : State) (f : Frame) : State :=
  u.withRing { u.ring with entries := u.ring.entries ++ [⟨f, true⟩] }

theorem store_own_quiet (h : u.station.state ≠ .member ∨ u.ring.flow ≠ .off ∨ u.ring.entries.length < 12) :
    u.store f true = u.looped f := by
  refine if_neg fun ⟨hstate, hflow, hfull⟩ => ?_
  have hfull : 12 < u.ring.entries.length + 1 := by simpa using hfull
  rcases h with h | h | h
  · exact h hstate
  · exact h hflow
  · omega

/-- At the thirteenth frame a MEMBER whose flow hold is OFF asks for a SLOW. -/
theorem store_own_asks (hstate : u.station.state = .member) (hflow : u.ring.flow = .off)
    (hfilled : 12 ≤ u.ring.entries.length) :
    (u.store f true).ring = { (u.looped f).ring with flow := .sending } ∧
    (u.store f true).queue = enqueue u.now .slow u.queue := by
  have hfull : 12 < (u.looped f).ring.entries.length := by
    simp [State.looped]
    omega
  unfold State.store State.lookFlow
  rw [if_pos ⟨hstate, hflow, hfull⟩]
  exact ⟨rfl, rfl⟩

/-! ### A loopback dropped at a full ring (R73, R76, R158, R159) -/

/-- The event, and the ring marked. -/
def State.overflowed (u : State) : State :=
  ((u.withRing { u.ring with lost := true }).raise .ringOverflow).countRingOverflow

@[simp] theorem overflowed_frame (u : State) :
    u.overflowed.queue = u.queue ∧ u.overflowed.recount = u.recount ∧ u.overflowed.station = u.station ∧
    u.overflowed.ring = { u.ring with lost := true } ∧
    u.overflowed.events = { u.events with
      flags := u.events.flags ||| Event.ringOverflow.bit
      counters := { u.events.counters with
        ringOverflows := min 65535 (u.events.counters.ringOverflows + 1) } } := by
  simp [State.overflowed, State.raise, State.countRingOverflow, State.withCounters, bump]

theorem drop_own_eq (u : State) (f : Frame) :
    u.drop f true = (u.overflowed.droppedRecount f true).lostCause := rfl

@[simp] theorem drop_own_values (u : State) (f : Frame) :
    (u.drop f true).ring = { u.ring with lost := true } ∧ (u.drop f true).events = u.overflowed.events := by
  simp [drop_own_eq]

/-- The loopback's own part changes requested alone. -/
theorem droppedRecount_recount (u : State) (f : Frame) (own : Bool) :
    ∃ b, (u.droppedRecount f own).recount = { u.recount with requested := b } := by
  unfold State.droppedRecount
  split
  · exact ⟨_, by rw [recountBack_eq, setRequested_recount]⟩
  · exact ⟨_, rfl⟩

/-- So the LOST cause is acted on as before the drop. -/
theorem overflowed_working_iff (u : State) (f : Frame) :
    (u.overflowed.droppedRecount f true).working ↔ u.working := by
  obtain ⟨b, hrecount⟩ := droppedRecount_recount u.overflowed f true
  simp [State.working, hrecount]

/-- In MEMBER, phase NONE or CHECK, the drop asks for a recount with cause LOST. -/
theorem drop_own_recount_of_working (h : u.working) :
    (u.drop f true).recount = { u.recount with requested := true } := by
  have hworking := (overflowed_working_iff u f).2 h
  obtain ⟨b, hrecount⟩ := droppedRecount_recount u.overflowed f true
  rw [drop_own_eq, State.lostCause, if_pos hworking, giveCause_of_working hworking, if_neg (by simp [Cause.guarded]),
    requestRecount_recount, hrecount]
  simp

section
variable (h : ¬ u.working)
include h

/-- Else it is asked for nothing. -/
theorem drop_own_of_not_working : u.drop f true = u.overflowed.droppedRecount f true :=
  (drop_own_eq u f).trans (if_neg (mt (overflowed_working_iff u f).1 h))

/-- A dropped own RECOUNT counts as taken. -/
theorem drop_own_recount_back (hkind : f.kind = .recount) (hnone : ∀ o ∈ u.queue, o.kind ≠ .recount) :
    (u.drop f true).recount = { u.recount with requested := false } := by
  have hwaits : ¬ u.overflowed.waits .recount := by
    intro hw
    obtain ⟨o, ho, hwaits⟩ := List.any_eq_true.1 hw
    obtain ⟨hrecount, -⟩ := of_decide_eq_true hwaits
    exact hnone o (by simpa using ho) hrecount
  rw [drop_own_of_not_working h, State.droppedRecount, if_pos ⟨hkind, rfl⟩, State.recountBack, if_neg hwaits]
  simp

end

end

/-! ### A SLOW asked for stays through the look that follows (R145, R146, R154) -/

/-- A frame that a request does not outrank stays in the queue, by its kind. -/
theorem enqueue_holds {q : List Slot} {p : Payload} {k : Kind} (now : Time) (h : ∃ o ∈ q, o.kind = k)
    (hroom : q.length < 4 ∨ ∀ r : Payload, r.kind = k → r.standing ≤ p.standing) :
    ∃ o ∈ enqueue now p q, o.kind = k := by
  obtain ⟨o, ho, hk⟩ := h
  by_cases hshort : q.length < 4 ∨ ∃ x ∈ q, x.kind = p.kind
  · obtain ⟨⟨x, hx, hxp⟩, hkept⟩ := enqueue_keeps now hshort
    exact (hkept o ho).elim (fun ho => ⟨o, ho, hk⟩) fun hp => ⟨x, hx, hxp.trans (hp.symm.trans hk)⟩
  · obtain ⟨hfull, hnone⟩ := not_or.1 hshort
    have houtranked := hroom.resolve_left hfull
    have hnone : ∀ x ∈ q, x.kind ≠ p.kind := fun x hx hp => hnone ⟨x, hx, hp⟩
    cases hd : displaced p q with
    | none =>
      rw [enqueue_of_refused now hnone (by omega) hd]
      exact ⟨o, ho, hk⟩
    | some d =>
      obtain ⟨-, hlower⟩ := mem_of_displaced hd
      have hne : d.kind ≠ k := fun hdk => absurd (houtranked _ hdk) (by omega)
      rw [enqueue_of_displaced now hnone (by omega) hd]
      exact ⟨o, List.mem_append_left _ (List.mem_filter.2 ⟨ho, by simpa [hk] using hne.symm⟩), hk⟩

theorem standing_of_slow {r : Payload} (h : r.kind = .slow) : r.standing = 4 := by
  cases r with
  | slow => rfl
  | _ => cases h

section
variable {u : State}

theorem keep_holds_slow {p : Payload} (h : u.holds .slow) (hroom : u.queue.length < 4 ∨ 4 ≤ p.standing) :
    (u.keep p).holds .slow := by
  have henqueue : (u.enqueue p).holds .slow := (holds_iff _ _).2
    (enqueue_holds _ ((holds_iff u _).1 h) (hroom.imp_right fun hp r hr => (standing_of_slow hr).trans_le hp))
  unfold State.keep
  split
  · exact henqueue
  · split
    · exact h
    · exact henqueue

/-- With a place free for the RELEASE, which alone outranks it, the SLOW stays. -/
theorem lookAgain_holds_slow (h : u.holds .slow) (hroom : u.queue.length < 4) : u.lookAgain.holds .slow := by
  have henqueue : ∀ v : State, ∀ p : Payload, 4 ≤ p.standing → v.holds .slow → (v.enqueue p).holds .slow :=
    fun v p hp hv => (holds_iff _ _).2
      (enqueue_holds _ ((holds_iff v _).1 hv) (.inr fun r hr => (standing_of_slow hr).trans_le hp))
  have hrelease : u.releaseAgent.holds .slow := by
    unfold State.releaseAgent
    split
    · exact keep_holds_slow h (.inl hroom)
    · exact h
  have hslow : u.releaseAgent.slowAgent.holds .slow := by
    rwa [State.slowAgent, if_neg fun hc => hc.2 hrelease]
  have hdemand : u.releaseAgent.slowAgent.demandAgent.holds .slow := by
    unfold State.demandAgent
    split
    · exact keep_holds_slow hslow (.inr (by simp [Payload.standing]))
    · exact hslow
  have hclear : u.releaseAgent.slowAgent.demandAgent.clearAgent.holds .slow := by
    unfold State.clearAgent
    split
    · split
      · exact hdemand
      · exact henqueue _ _ (by simp [Payload.standing]) hdemand
    · exact hdemand
  unfold State.lookAgain
  split
  · unfold State.claimAgent
    split
    · exact henqueue _ _ (by simp [Payload.standing]) hclear
    · exact hclear
  · exact h

theorem takesPart_elsewhere (h : u.takesPart) : u.station.state ≠ .parked ∧ u.station.state ≠ .isolated := by
  rcases h with h | h <;> simp [h]

/-- A loopback that asks for no SLOW, in the order of the flow hold's own conditions (R162). -/
theorem quiet_cases (h : u.ring.entries.length < 12 ∨
      u.ring.entries.length < 16 ∧ (u.station.state = .listen ∨ u.ring.flow ≠ .off)) :
    u.station.state ≠ .member ∨ u.ring.flow ≠ .off ∨ u.ring.entries.length < 12 := by
  rcases h with h | ⟨-, h | h⟩
  · exact .inr (.inr h)
  · exact .inl (by simp [h])
  · exact .inr (.inl h)

end

/-! ### The end of frame (R134, R149, R153) -/

/-- The line is IDLE from the end of frame, and the slot freed. -/
def State.frameOver (s : State) (f : Frame) (sl : Slot) : State :=
  let ended := (s.reach (s.frameEnd f)).lineBecomes .idle .none
  ended.withQueue (refilled ended.now sl s.queue)

@[simp] theorem frameOver_frame (s : State) (f : Frame) (sl : Slot) :
    (s.frameOver f sl).loader = s.loader ∧ (s.frameOver f sl).ring = s.ring ∧
    (s.frameOver f sl).table = s.table ∧ (s.frameOver f sl).grant = s.grant ∧
    (s.frameOver f sl).recount = s.recount ∧ (s.frameOver f sl).station = s.station ∧
    (s.frameOver f sl).events = s.events ∧
    (s.frameOver f sl).queue = refilled (s.reach (s.frameEnd f)).now sl s.queue := by
  simp [State.frameOver, State.reach]

theorem refilled_length_le {now : Time} {sl : Slot} {q : List Slot} (hm : sl ∈ q) :
    (refilled now sl q).length ≤ q.length := by
  have hless : (freeSlot sl.kind q).length < q.length :=
    List.length_filter_lt_length_iff_exists.2 ⟨sl, hm, by simp⟩
  have hone : (sl.followOn.map (Slot.fresh now)).toList.length ≤ 1 := by
    cases sl.followOn <;> simp
  simp only [refilled, List.length_append]
  omega

@[simp] theorem beaconRestarted_state (s : State) : s.beaconRestarted.station.state = s.station.state := rfl

section
variable {s : State} {f : Frame} {sl : Slot} (hlow : s.resetLow = false) (htx : s.line.tx = .sending f)
  (h : OnLineAlone s.queue sl)
include hlow htx h

theorem exec_ownFrameCompletion : exec .ownFrameCompletion s =
    .next ((((s.frameOver f sl).reportCompletion sl).handOn f true).lookAfter (s.reach (s.frameEnd f))
      (!sl.flushed)) := by
  have hslot : onLineSlot ((s.reach (s.frameEnd f)).lineBecomes .idle .none).queue = some sl := h.onLineSlot_eq
  rw [exec, execOwnFrameCompletion, outOfReset_of_released hlow, htx]
  dsimp only
  rw [State.complete, hslot]
  dsimp only
  rw [freeOnLine_eq]
  rfl

/-! #### The end of a flushed frame is reported to no block (R153) -/

section
variable (hflushed : sl.flushed = true)
include hflushed

theorem ownFrameCompletion_flushed : exec .ownFrameCompletion s =
    .next (((s.frameOver f sl).handOn f true).lookAfter (s.reach (s.frameEnd f)) false) := by
  have hreport : (s.frameOver f sl).reportCompletion sl = s.frameOver f sl := if_pos hflushed
  rw [exec_ownFrameCompletion hlow htx h, hreport, hflushed, Bool.not_true]

theorem flushed_silent (hsilent : f.kind = .slow ∨ s.station.state = .parked) :
    exec .ownFrameCompletion s = .next (s.frameOver f sl) := by
  rw [ownFrameCompletion_flushed hlow htx h hflushed, handOn_own_silent (by simpa using hsilent)]
  exact congrArg _ (lookAfter_of_same (b := s.reach (s.frameEnd f)) rfl rfl rfl rfl rfl (List.Subset.refl _)
    (h.not_freedSince hflushed rfl fun o ho => ⟨o, List.mem_append_left _ ho, rfl⟩))

section
variable (hkind : f.kind ≠ .slow) (hparked : s.station.state ≠ .parked)
include hkind hparked

theorem flushed_stored (hroom : s.ring.entries.length < 16)
    (hwatch : s.station.state ≠ .isolated ∨ ∀ d, f.body.digest? = some d → d = s.digest)
    (hquiet : s.station.state ≠ .member ∨ s.ring.flow ≠ .off ∨ s.ring.entries.length < 12) :
    exec .ownFrameCompletion s = .next ((s.frameOver f sl).looped f) := by
  rw [ownFrameCompletion_flushed hlow htx h hflushed, handOn_own_stored hkind (by simpa using hparked)
    (by simpa using hroom) (by simpa [State.digest] using hwatch), store_own_quiet (by simpa using hquiet)]
  exact congrArg _ (lookAfter_of_same (b := s.reach (s.frameEnd f)) rfl rfl rfl rfl rfl (List.subset_append_left _ _)
    (h.not_freedSince hflushed rfl fun o ho => ⟨o, List.mem_append_left _ ho, rfl⟩))

theorem flushed_asked (hmember : s.station.state = .member) (hflow : s.ring.flow = .off)
    (hfilled : 12 ≤ s.ring.entries.length) (hroom : s.ring.entries.length < 16) :
    ∃ t, exec .ownFrameCompletion s = .next t ∧
      t.ring = { ((s.frameOver f sl).looped f).ring with flow := .sending } ∧
      ((s.frameOver f sl).queue.length < 4 → ∃ o ∈ t.queue, o.kind = .slow) ∧
      t.line = (s.frameOver f sl).line ∧ t.station = s.station ∧ t.table = s.table ∧ t.grant = s.grant ∧
      t.recount = s.recount ∧ t.events = s.events := by
  obtain ⟨hring, hqueue⟩ := store_own_asks (u := s.frameOver f sl) (f := f) (by simpa using hmember)
    (by simpa using hflow) (by simpa using hfilled)
  have hexec := ownFrameCompletion_flushed hlow htx h hflushed
  rw [handOn_own_stored hkind (by simpa using hparked) (by simpa using hroom) (by simp [hmember])] at hexec
  refine ⟨_, hexec, ?_, fun hplace => ?_, by simp, by simp, by simp, by simp, by simp, by simp⟩
  · rw [lookAfter_ring_of_filled _ _ (by simp; omega), hring]
  · obtain ⟨hslow, hkept⟩ := enqueue_keeps (p := .slow) (s.frameOver f sl).now (.inl hplace)
    rw [← hqueue] at hslow hkept
    obtain ⟨o, ho, hk⟩ := hslow
    have hsame : ((s.frameOver f sl).store f true).lookAfter (s.reach (s.frameEnd f)) false =
        (s.frameOver f sl).store f true := by
      refine lookAfter_of_same (by simp [State.reach]) (by simp [State.reach]) (by simp [State.reach])
        (by simp [State.reach]) (by simp [State.reach]) (by simp [State.reach])
        (h.not_freedSince hflushed rfl fun x hx => ?_)
      have hin : x ∈ (s.frameOver f sl).queue := List.mem_append_left _ hx
      exact (hkept x hin).elim (fun hx => ⟨x, hx, rfl⟩) fun hp => ⟨o, ho, hk.trans hp.symm⟩
    rw [hsame]
    exact ⟨o, ho, hk⟩

theorem flushed_dropped (hfull : 16 ≤ s.ring.entries.length) : exec .ownFrameCompletion s =
    .next (((s.frameOver f sl).drop f true).lookAfter (s.reach (s.frameEnd f)) false) := by
  rw [ownFrameCompletion_flushed hlow htx h hflushed, handOn_own_dropped hkind (by simpa using hparked)
    (by simpa using hfull)]

end

end

/-! #### The completion of any other is reported, and all blocks look again (R93, R106, R108, R154, R163) -/

section
variable (hreported : sl.flushed = false)
include hreported

theorem ownFrameCompletion_reported : exec .ownFrameCompletion s =
    .next ((((s.frameOver f sl).reportCompletion sl).handOn f true).lookAfter (s.reach (s.frameEnd f)) true) := by
  rw [exec_ownFrameCompletion hlow htx h, hreported, Bool.not_false]

theorem reported_slow (hfkind : f.kind = sl.kind) (hslow : sl.payload = .slow) (hpart : s.takesPart) :
    exec .ownFrameCompletion s = .next (s.frameOver f sl).beaconRestarted.slowCompleted.lookAgain := by
  have hreport : (s.frameOver f sl).reportCompletion sl = (s.frameOver f sl).beaconRestarted.slowCompleted := by
    rw [State.reportCompletion, if_neg (by simp [hreported]), hslow,
      if_pos (by simpa [State.takesPart] using hpart)]
  have hkind : f.kind = .slow := by rw [hfkind, Slot.kind, hslow, Payload.kind]
  rw [ownFrameCompletion_reported hlow htx h hreported, hreport, handOn_own_silent (.inl hkind)]
  exact congrArg _ (lookAfter_freed_of_same (by simp [State.reach]) (by simp [State.reach]) (by simp [State.reach]))

theorem reported_leave (hleave : sl.payload.isLeave = true) (hmember : s.station.state = .member)
    (happlied : s.grant.applied = 0) (hown : s.gOwn = 0) :
    exec .ownFrameCompletion s = .next (s.frameOver f sl).beaconRestarted.enterParked := by
  have hreport : (s.frameOver f sl).reportCompletion sl = (s.frameOver f sl).beaconRestarted.enterParked := by
    obtain ⟨x, hpayload⟩ : ∃ x, sl.payload = .recount x .leave := by
      revert hleave
      unfold Payload.isLeave
      split
      · exact fun _ => ⟨_, ‹_›⟩
      · simp
    rw [State.reportCompletion, if_neg (by simp [hreported]), hpayload,
      if_pos (by simp [State.takesPart, hmember])]
    refine if_pos ⟨by simpa using hmember, by simpa using happlied, hown⟩
  have hparked : (s.frameOver f sl).beaconRestarted.enterParked.station.state = .parked := rfl
  rw [ownFrameCompletion_reported hlow htx h hreported, hreport, handOn_own_silent (.inr hparked),
    lookAfter_of_not_member _ _ _ (by simp [hparked])]

section
variable (hfkind : f.kind = sl.kind) (hkind : f.kind ≠ .slow) (hpart : s.takesPart)
  (hstays : ¬ (sl.payload.isLeave = true ∧ s.station.state = .member ∧ s.grant.applied = 0 ∧ s.gOwn = 0))
include hfkind hkind hpart hstays

theorem ownFrameCompletion_other : exec .ownFrameCompletion s =
    .next (((s.frameOver f sl).beaconRestarted.handOn f true).lookAfter (s.reach (s.frameEnd f)) true) := by
  have hreport : (s.frameOver f sl).reportCompletion sl = (s.frameOver f sl).beaconRestarted := by
    rw [State.reportCompletion, if_neg (by simp [hreported]), if_pos (by simpa [State.takesPart] using hpart)]
    dsimp only
    split
    · exact absurd (hfkind.trans (by rw [Slot.kind, ‹sl.payload = _›, Payload.kind])) hkind
    · refine if_neg fun ⟨hmember, happlied, hown⟩ => hstays ⟨by rw [‹sl.payload = _›]; rfl, ?_, ?_, hown⟩
      · simpa using hmember
      · simpa using happlied
    · rfl
  rw [ownFrameCompletion_reported hlow htx h hreported, hreport]

theorem reported_stored (hquiet : s.ring.entries.length < 12 ∨
      s.ring.entries.length < 16 ∧ (s.station.state = .listen ∨ s.ring.flow ≠ .off)) :
    exec .ownFrameCompletion s = .next ((s.frameOver f sl).beaconRestarted.looped f).lookAgain := by
  obtain ⟨hparked, hisolated⟩ := takesPart_elsewhere hpart
  have hroom : s.ring.entries.length < 16 := by omega
  rw [ownFrameCompletion_other hlow htx h hreported hfkind hkind hpart hstays,
    handOn_own_stored hkind (by simpa using hparked) (by simpa using hroom) (.inl (by simpa using hisolated)),
    store_own_quiet (by simpa using quiet_cases hquiet)]
  exact congrArg _ (lookAfter_freed_of_same rfl rfl rfl)

theorem reported_asked (hmember : s.station.state = .member) (hflow : s.ring.flow = .off)
    (hfilled : 12 ≤ s.ring.entries.length) (hroom : s.ring.entries.length < 16) :
    ∃ t, exec .ownFrameCompletion s = .next t ∧
      t.ring = { ((s.frameOver f sl).looped f).ring with flow := .sending } ∧
      (s.queue.length ≤ 2 → ∃ o ∈ t.queue, o.kind = .slow) ∧
      t.line = (s.frameOver f sl).line ∧ t.station = (s.frameOver f sl).beaconRestarted.station ∧
      t.table = s.table ∧ t.grant = s.grant ∧ t.recount = s.recount ∧ t.events = s.events := by
  obtain ⟨hring, hqueue⟩ := store_own_asks (u := (s.frameOver f sl).beaconRestarted) (f := f)
    (by simpa using hmember) (by simpa using hflow) (by simpa using hfilled)
  have hexec := ownFrameCompletion_other hlow htx h hreported hfkind hkind hpart hstays
  rw [handOn_own_stored hkind (by simp [hmember]) (by simpa using hroom) (by simp [hmember]),
    lookAfter_freed_of_same (by simp [State.reach]) (by simp [State.reach]) (by simp [State.reach])] at hexec
  refine ⟨_, hexec, ?_, fun hshort => ?_, by simp, by simp, by simp, by simp, by simp, by simp⟩
  · rw [lookAgain_ring_of_filled (by simp; omega), hring]
    simp [State.looped]
  · have hlength : (s.frameOver f sl).beaconRestarted.queue.length ≤ 2 := by
      simpa using (refilled_length_le h.mem).trans hshort
    refine (holds_iff _ _).1 (lookAgain_holds_slow ((holds_iff _ _).2 ?_) ?_)
    · rw [hqueue]
      exact (enqueue_keeps _ (.inl (by omega))).1
    · rw [hqueue]
      exact (enqueue_length_le _ _ _).trans_lt (by omega)

theorem reported_dropped (hfull : 16 ≤ s.ring.entries.length) : exec .ownFrameCompletion s =
    .next ((s.frameOver f sl).beaconRestarted.drop f true).lookAgain := by
  obtain ⟨hparked, -⟩ := takesPart_elsewhere hpart
  rw [ownFrameCompletion_other hlow htx h hreported hfkind hkind hpart hstays,
    handOn_own_dropped hkind (by simpa using hparked) (by simpa using hfull)]
  exact congrArg _ (lookAfter_freed_of_same (by simp [State.reach]) (by simp [State.reach]) (by simp [State.reach]))

end

end

end

/-- Settles O40: the slot is freed at the end of frame (`frameOver`), its completion reported unless it was flushed, and
the loopback stored or dropped by the room in the ring. -/
theorem ownFramesCompleteAndLoopBack : Obligations.OwnFramesCompleteAndLoopBack := by
  intro s f sl hlow htx hkinds hm hline honly hfkind at_ ended looped
  have h : OnLineAlone s.queue sl := ⟨hkinds, hm, hline, honly⟩
  have hended : (s.frameOver f sl).line = ended.line ∧ (s.frameOver f sl).queue = ended.queue ∧
    (s.frameOver f sl).beaconRestarted.station = ended.station := ⟨rfl, rfl, rfl⟩
  obtain ⟨hidle, hqueue, hstation⟩ := hended
  refine ⟨fun hflushed => ⟨flushed_silent hlow htx h hflushed, fun hkind hpart => ?_, fun hkind hstate => ?_⟩,
    fun hreported hkind hpart hstays => ?_, fun hreported hslow hpart => ?_,
    fun hreported hleave hmember happlied hown => ?_⟩
  · obtain ⟨hparked, hisolated⟩ := takesPart_elsewhere hpart
    refine ⟨fun hquiet => ?_, fun hfilled hroom hmember hflow => ?_, fun hfull => ?_⟩
    · exact flushed_stored hlow htx h hflushed hkind hparked (by omega) (.inl hisolated) (quiet_cases hquiet)
    · exact flushed_asked hlow htx h hflushed hkind hparked hmember hflow hfilled hroom
    · refine ⟨_, flushed_dropped hlow htx h hflushed hkind hparked hfull, by simp, by simp, by simpa using hidle, by simp,
        by simp, by simp, by simp, fun hmember hphase => ?_⟩
      simpa using drop_own_recount_of_working (u := s.frameOver f sl) (f := f)
        ⟨by simpa using hmember, by simpa using hphase⟩
  · have hparked : s.station.state ≠ .parked := by
      rcases hstate with h | ⟨h, -⟩ <;> simp [h]
    have hmember : s.station.state ≠ .member := by
      rcases hstate with h | ⟨h, -⟩ <;> simp [h]
    refine ⟨fun hroom => ?_, fun hfull => ?_⟩
    · refine flushed_stored hlow htx h hflushed hkind hparked hroom ?_ (.inl hmember)
      exact hstate.imp (by simp [·]) And.right
    · refine ⟨_, flushed_dropped hlow htx h hflushed hkind hparked hfull, ?_⟩
      rw [lookAfter_of_not_member _ _ _ (by simpa using hmember)]
      refine ⟨by simp, by simpa using hidle, ?_, by simp, by simp, by simp⟩
      rw [drop_own_of_not_working fun hw => hmember (by simpa using hw.1)]
      simpa using hqueue
  · refine ⟨reported_stored hlow htx h hreported hfkind hkind hpart hstays, fun hfilled hroom hmember hflow =>
      reported_asked hlow htx h hreported hfkind hkind hpart hstays hmember hflow hfilled hroom, fun hfull => ?_⟩
    refine ⟨_, reported_dropped hlow htx h hreported hfkind hkind hpart hstays hfull, by simp, by simp,
      by simpa using hidle, by simpa using hstation, by simp, by simp, by simp, fun hmember hphase => ?_,
      fun hoff hrecount hnone => ?_⟩
    · simpa using drop_own_recount_of_working (u := (s.frameOver f sl).beaconRestarted) (f := f)
        ⟨by simpa using hmember, by simpa using hphase⟩
    · have hkindsl : sl.kind = .recount := hfkind.symm.trans hrecount
      have hgone : ∀ o ∈ (s.frameOver f sl).queue, o.kind ≠ .recount := by
        intro o ho
        have ho : o ∈ freeSlot sl.kind s.queue := by simpa [refilled, hnone] using ho
        simpa [hkindsl] using (List.mem_filter.1 ho).2
      have hnot : ¬ (s.frameOver f sl).beaconRestarted.working := by
        rintro ⟨hmember, hphase⟩
        exact hoff.elim (fun hl => by simp [hl] at hmember) fun hw => hphase (by simpa using hw)
      simpa using drop_own_recount_back hnot hrecount (by simpa using hgone)
  · have hexec := reported_slow hlow htx h hreported hfkind hslow hpart
    refine ⟨fun hflow => ?_, fun hflow => ?_⟩
    · rw [hexec, State.slowCompleted, if_pos (by simpa using hflow)]
      rfl
    · rw [hexec, State.slowCompleted, if_neg (by simpa using hflow)]
      rfl
  · refine ⟨_, reported_leave hlow htx h hreported hleave hmember happlied hown, ?_, ?_, ?_, ?_, ?_, ?_⟩
    · simp [State.enterParked]
    · exact clearedFrom_of_same (enter_clearedFrom _ .parked) (by simp) (by simp)
    · simp [State.enterParked, happlied]
    · simp [State.enterParked]
    · simp [State.enterParked]
    · simp [State.enterParked]

end Sys2Proof.Machine
end

section
/-! Frames of other stations that the ring does not store: one that finds it full (R72, R76, R158, R160; log 15), and a
SLOW (R132, R165). -/

namespace Sys2Proof.Machine

section
variable {s u : State} {f : Frame}

/-! ### A frame dropped at a full ring (R158, R160) -/

theorem handOn_dropped (hkind : f.kind ≠ .slow) (hparked : u.station.state ≠ .parked)
    (hfull : 16 ≤ u.ring.entries.length) : u.handOn f false = u.drop f false := by
  unfold State.handOn State.offer
  rw [if_neg hkind, if_neg hparked, if_neg (by omega)]

/-- Only an own RECOUNT counts as taken when it is dropped (R159). -/
theorem drop_other_eq (u : State) (f : Frame) : u.drop f false = u.overflowed.lostCause := by
  have hnot : u.overflowed.droppedRecount f false = u.overflowed := if_neg fun h => Bool.false_ne_true h.2
  unfold State.drop
  exact congrArg State.lostCause hnot

/-- In MEMBER, phase NONE or CHECK, the drop of another station's frame asks for a recount with cause LOST (R72,
R76). -/
theorem drop_other_of_working (h : u.working) : u.drop f false = u.overflowed.requestRecount .lost := by
  have hworking : u.overflowed.working := by simpa [State.working] using h
  have hlost : u.overflowed.lostCause = u.overflowed.giveCause .lost := if_pos hworking
  rw [drop_other_eq, hlost, giveCause_of_working hworking, if_neg (by simp [Cause.guarded])]

/-- Elsewhere the frame is gone, and the ring marked. -/
theorem drop_other_of_not_working (h : ¬ u.working) : u.drop f false = u.overflowed := by
  have hworking : ¬ u.overflowed.working := by simpa [State.working] using h
  rw [drop_other_eq]
  exact if_neg hworking

@[simp] theorem drop_other_values (u : State) (f : Frame) :
    (u.drop f false).ring = { u.ring with lost := true } ∧ (u.drop f false).events = u.overflowed.events := by
  by_cases h : u.working
  · rw [drop_other_of_working h]
    simp
  · rw [drop_other_of_not_working h]
    simp

/-! ### A SLOW of another station (R165) -/

/-- A SLOW carries no digest: the watch minds its sender alone (R110, R136). -/
theorem watch_slow (hkind : f.kind = .slow) (h : ¬ (u.station.state = .isolated ∧ f.sender = u.own)) :
    u.watch f false = u := by
  by_cases hisolated : u.station.state = .isolated
  · have hdigest : f.body.digest? = none := by
      unfold Frame.kind at hkind
      cases hb : f.body <;> simp_all [Body.kind, Body.digest?]
    exact watch_of_admits ⟨fun hduplicate => h ⟨hisolated, hduplicate.1⟩, by simp [hdigest]⟩
  · exact watch_of_not_isolated hisolated

end

/-- Settles O33: the dropped frame leaves the queue as it was unless a recount is asked for, and what is asked for
stands after the look at the end of the command. -/
theorem fullRingDropsAndRecounts : Obligations.FullRingDropsAndRecounts := by
  intro s cells f hlow hbusy htx hf hkind hstate hfull
  have hr : s.receiving := ⟨.inr hbusy, htx⟩
  have hparked : s.station.state ≠ .parked := by rcases hstate with h | h | h | h <;> simp [h]
  have hexec := exec_frameReceived_of_valid hlow hr hf
  rw [handOn_dropped hkind (by simpa using hparked) (by simpa using hfull)] at hexec
  obtain ⟨-, hline, -⟩ := activityEnds_values hr cells.length
  have hqueue := activityEnds_queue_of_busy hbusy cells.length
  refine ⟨_, hexec, by simp, by simp, by simp, by simp, by simp, by simp, by simp, by simp, by simpa using hline,
    by simp, by simp, by simp, fun hmember hphase => ?_, fun hoff => ?_⟩
  · rw [drop_other_of_working ⟨by simpa using hmember, by simpa using hphase⟩]
    refine ⟨by simp, requestRecount_asksFor _ _ _ (by simp) fun hsound => ?_⟩
    have hkept : (s.activityEnds cells.length).overflowed.queue = s.queue := by simpa using hqueue
    exact ⟨hkept ▸ hsound, by rw [State.leaveQueued, hkept]⟩
  · have hnot : ¬ (s.activityEnds cells.length).working := by
      rintro ⟨hmember, hphase⟩
      exact hoff.elim (fun h => h (by simpa using hmember)) fun h => hphase (by simpa using h)
    rw [drop_other_of_not_working hnot, lookAfter_of_same (by simp [State.overflowed]) (by simp [State.overflowed])
      (by simp [State.overflowed]) (by simp) (by simp) (by simp)
      (not_freedSince_of_kinds fun sl hm => ⟨sl, by simpa [hqueue] using hm, rfl⟩)]
    exact ⟨by simp, by simpa using hqueue⟩

/-- Settles O34: a SLOW moves the deferral alone, and no standing condition depends on that. -/
theorem slowFramesSetTheDeferral : Obligations.SlowFramesSetTheDeferral := by
  intro s cells f hlow hbusy htx hf hkind hwatch
  have hr : s.receiving := ⟨.inr hbusy, htx⟩
  have hexec := exec_frameReceived_of_valid hlow hr hf
  obtain ⟨-, hline, -⟩ := activityEnds_values hr cells.length
  have hqueue := activityEnds_queue_of_busy hbusy cells.length
  rw [handOn_slow hkind, watch_slow hkind (by simpa [State.own] using hwatch), lookAfter_of_same (by simp)
    (by simp) (by simp) (by simp) (by simp) (by simp [State.honourSlow])
    (not_freedSince_of_kinds fun sl hm => ⟨sl, by simpa [hqueue] using hm, rfl⟩)] at hexec
  have htSlow : (s.activityEnds cells.length).tSlow = s.tSlow := by simp [State.tSlow, State.config]
  refine ⟨_, hexec, by simp [State.honourSlow], fun hnone => ?_, fun d hd => ?_, by simp, by simp, by simp, by simp,
    by simp, by simp, by simp [State.honourSlow], by simpa using hline, by simp, by simp, by simp⟩
  · simp [State.honourSlow, State.after, htSlow, hnone]
  · simp [State.honourSlow, State.after, htSlow, hd]

end Sys2Proof.Machine
end

section
/-! The flow hold's timers (R154, R162 to R165): the own slow timer, whose SLOW the look at the end of the command
leaves in the queue, and the deferral. -/

namespace Sys2Proof.Machine

section
variable {s u : State}

/-! ### A SLOW that has made room for itself (R146, R154) -/

/-- With A not below g_own no RELEASE is asked for, which alone outranks the SLOW. -/
theorem lookAgain_holds_slow_of_applied (h : u.holds .slow) (happlied : u.gOwn ≤ u.grant.applied) :
    u.lookAgain.holds .slow := by
  have hrelease : u.releaseAgent = u := if_neg fun hc => by omega
  have hslow : u.slowAgent = u := if_neg fun hc => hc.2 h
  have hdemand : u.demandAgent.holds .slow := by
    unfold State.demandAgent
    split
    · exact keep_holds_slow h (.inr (by simp [Payload.standing]))
    · exact h
  have henqueue : ∀ v : State, ∀ p : Payload, 4 ≤ p.standing → v.holds .slow → (v.enqueue p).holds .slow :=
    fun v p hp hv => (holds_iff _ _).2
      (enqueue_holds _ ((holds_iff v _).1 hv) (.inr fun r hr => (standing_of_slow hr).trans_le hp))
  have hclear : u.demandAgent.clearAgent.holds .slow := by
    unfold State.clearAgent
    (repeat' split)
    · exact hdemand
    · exact henqueue _ _ (by simp [Payload.standing]) hdemand
    · exact hdemand
  unfold State.lookAgain
  split
  · rw [hrelease, hslow]
    unfold State.claimAgent
    split
    · exact henqueue _ _ (by simp [Payload.standing]) hclear
    · exact hclear
  · exact h

/-- A request for which a waiting frame of lower standing makes room is queued. -/
theorem enqueue_holds_of_lower {q : List Slot} {p : Payload} (now : Time)
    (h : ∃ sl ∈ q, sl.waiting ∧ p.standing < sl.payload.standing) :
    ∃ sl ∈ enqueue now p q, sl.kind = p.kind := by
  by_cases hshort : q.length < 4 ∨ ∃ sl ∈ q, sl.kind = p.kind
  · exact (enqueue_keeps now hshort).1
  · obtain ⟨hfull, hnone⟩ := not_or.1 hshort
    obtain ⟨sl, hm, hwaits, hlower⟩ := h
    obtain ⟨d, hd, -⟩ := displaced_of_lower hm hwaits hlower
    rw [enqueue_of_displaced now (fun o ho hk => hnone ⟨o, ho, hk⟩) (by omega) hd]
    exact ⟨_, List.mem_append_right _ (List.mem_singleton.2 rfl), rfl⟩

/-! ### The own slow timer (R164) -/

theorem exec_ownSlowTimerExpiry {t : Time} (hlow : s.resetLow = false) (ht : s.ring.slowTimer = some t) :
    exec .ownSlowTimerExpiry s = .next ((s.reach t).slowEnds.lookAfter s false) := by
  rw [exec, execOwnSlowTimerExpiry, outOfReset_of_released hlow, ht]

/-- The state in which the hold asks for another SLOW. -/
theorem slowEnds_asks (hfilled : 6 < u.ring.entries.length) :
    u.slowEnds.ring = { u.ring with flow := .sending, slowTimer := none } ∧
    u.slowEnds.queue = enqueue u.now .slow u.queue := by
  unfold State.slowEnds
  rw [if_pos hfilled]
  exact ⟨rfl, rfl⟩

/-- The state in which the hold ends. -/
theorem slowEnds_stops (hroom : u.ring.entries.length ≤ 6) :
    u.slowEnds = u.withRing { u.ring with flow := .off, slowTimer := none } :=
  if_neg (Nat.not_lt_of_le hroom)

@[simp] theorem slowEnds_ring (u : State) : u.slowEnds.ring.entries = u.ring.entries ∧
    u.slowEnds.ring.deferral = u.ring.deferral ∧ u.slowEnds.ring.slowTimer = none := by
  unfold State.slowEnds
  split <;> simp

/-- A freed slot lets all blocks look again (R154). -/
theorem lookAfter_of_freedSince {b : State} (hloader : u.loader = b.loader) (htable : u.table = b.table)
    (hgrant : u.grant = b.grant) (hmember : u.station.state = .member) (hfreed : u.freedSince b) :
    u.lookAfter b false = u.lookAgain := by
  have hown : u.gOwn = b.gOwn ∧ u.dOwn = b.dOwn := by
    simp [State.gOwn, State.dOwn, State.ownMember?, State.own, hloader, htable]
  have hmet := met_of_unchanged u b (by rw [hgrant]) (by rw [hgrant]) hown.1 hown.2
  unfold State.lookAfter
  rw [if_pos hmember]
  simp only [hmet, if_pos (Or.inr hfreed)]

/-- With no slot freed the look at the end of the command asks for nothing. -/
theorem slowEnds_lookAfter {t : Time} (hfreed : ¬ (s.reach t).slowEnds.freedSince s) :
    (s.reach t).slowEnds.lookAfter s false = (s.reach t).slowEnds :=
  lookAfter_of_same (by simp) (by simp) (by simp) (by simp) (by simp) (by simp) hfreed

/-- The SLOW asked for is in the queue at the end of the command: where the queue held one or had a place no slot is
freed, and where it has made room for itself the blocks that look again leave it. -/
theorem slowEnds_lookAfter_holds {t : Time} (hmember : s.station.state = .member)
    (hfilled : 6 < s.ring.entries.length)
    (h : (s.queue.length < 4 ∨ ∃ sl ∈ s.queue, sl.kind = .slow) ∨
      s.gOwn ≤ s.grant.applied ∧ ∃ sl ∈ s.queue, sl.waiting ∧ 4 < sl.payload.standing) :
    ((s.reach t).slowEnds.lookAfter s false).holds .slow := by
  have hqueue : (s.reach t).slowEnds.queue = enqueue (s.reach t).now .slow s.queue :=
    (slowEnds_asks (u := s.reach t) (by simpa using hfilled)).2
  have hfound : (s.reach t).slowEnds.holds .slow := by
    rw [holds_iff, hqueue]
    exact h.elim (fun hshort => (enqueue_keeps (p := .slow) _ hshort).1) fun hlower =>
      enqueue_holds_of_lower (p := .slow) _ hlower.2
  by_cases hfreed : (s.reach t).slowEnds.freedSince s
  · rw [lookAfter_of_freedSince (by simp) (by simp) (by simp) (by simpa using hmember) hfreed]
    refine h.elim (fun hshort => absurd hfreed ?_) fun hlower => lookAgain_holds_slow_of_applied hfound ?_
    · obtain ⟨hslow, hkept⟩ := enqueue_keeps (p := .slow) (s.reach t).now hshort
      obtain ⟨o, ho, hk⟩ := hqueue ▸ hslow
      exact not_freedSince_of_kinds fun sl hm =>
        (hqueue ▸ hkept sl hm).elim (fun hin => ⟨sl, hin, rfl⟩) fun hsl => ⟨o, ho, hk.trans hsl.symm⟩
    · simpa [State.gOwn, State.ownMember?, State.own] using hlower.1
  · rw [slowEnds_lookAfter hfreed]
    exact hfound

end

/-- Settles O55: the expiry of the own slow timer changes no item, so that the look at the end of the command finds at
most that the SLOW asked for has displaced another frame; the expiry of the deferral asks for nothing. -/
theorem flowHoldTimers : Obligations.FlowHoldTimers := by
  intro s t hlow
  refine ⟨fun ht hmember => ?_, fun ht => ?_⟩
  · refine ⟨_, exec_ownSlowTimerExpiry hlow ht, by simp [State.sameBeside], by simp, by simp [State.reach], by simp,
      by simp, by simp, by simp, by simp, by simp, by simp, by simp, fun hroom => ?_, fun hfilled => ?_⟩
    · have hstops := slowEnds_stops (u := s.reach t) (by simpa using hroom)
      have hqueue : (s.reach t).slowEnds.queue = s.queue := by simp [hstops]
      rw [slowEnds_lookAfter (not_freedSince_of_kinds fun sl hm => ⟨sl, hqueue ▸ hm, rfl⟩), hstops]
      rfl
    · obtain ⟨hring, hqueue⟩ := slowEnds_asks (u := s.reach t) (by simpa using hfilled)
      refine ⟨?_, fun hempty => ?_, fun hroom => (holds_iff _ _).1 (slowEnds_lookAfter_holds hmember hfilled ?_)⟩
      · rw [lookAfter_ring_of_filled _ _ (by simpa using hfilled), hring]
      · rw [slowEnds_lookAfter (by simp [State.freedSince, hempty]), hqueue]
        have hfresh : enqueue (s.reach t).now .slow (s.reach t).queue = [Slot.fresh (s.reach t).now .slow] := by
          simp [hempty, enqueue, slotOf]
        rw [hfresh]
        exact ⟨_, List.mem_singleton.2 rfl, rfl, rfl⟩
      · rcases hroom with hfree | hheld | ⟨-, happlied, hlower⟩
        · exact .inl (.inl hfree)
        · exact .inl (.inr hheld)
        · exact .inr ⟨happlied, hlower⟩
  · rw [exec, execDeferralExpiry, outOfReset_of_released hlow, ht]
    rfl

end Sys2Proof.Machine
end

section
/-! What StepsKeepTheStoresAndCounts reads of the state, block by block, and what leaves it in order (R1, R83, R84, R88,
R91, R101 to R103, R155, R189, R193). -/

namespace Sys2Proof.Machine

/-! ### Members and their confirmations (R1, R84, R88) -/

/-- Whether entry `n` is a member, and then whether it is confirmed. -/
def Table.confirmation (t : Table) (n : StationNo) : Option Bool := (t.member? n).map Member.confirmed

theorem confirmation_eq_some {t : Table} {n : StationNo} {b : Bool} :
    t.confirmation n = some b ↔ ∃ m, t.member? n = some m ∧ m.confirmed = b := Option.map_eq_some_iff

section
variable {t : Table} {n : StationNo}

theorem updateMember_confirmation {f : Member → Member} (hf : ∀ m, (f m).confirmed = m.confirmed) :
    (t.updateMember n f).confirmation = t.confirmation := by
  funext k
  unfold Table.confirmation
  by_cases hk : k = n
  · subst hk
    cases hm : t.member? k with
    | none => rw [updateMember_of_no_member hm, hm]
    | some m => rw [updateMember_member? hm, Option.map_some, Option.map_some, hf]
  · rw [Table.member?, updateMember_entryAt_of_ne t hk, Table.member?]

theorem mapMembers_confirmation {f : StationNo → Member → Member} (hf : ∀ n m, (f n m).confirmed = m.confirmed) :
    (t.mapMembers f).confirmation = t.confirmation := by
  funext k
  simp [Table.confirmation, mapMembers_member?, Function.comp_def, hf]

/-- A ghost's entry may become any other that is no member (R23, R26). -/
theorem setEntry_confirmation {g : Ghost} {e : Entry} (hg : t.ghost? n = some g) (he : ∀ m, e ≠ .member m) :
    (t.setEntry n e).confirmation = t.confirmation := by
  have hghost : ∀ m, t.entryAt n ≠ .member m := fun m hm => by simp [Table.ghost?, hm] at hg
  have hnone : ∀ u : Table, (∀ m, u.entryAt n ≠ .member m) → u.member? n = none := fun u hu =>
    Option.eq_none_iff_forall_not_mem.2 fun m hm => hu m (member?_eq_some.1 hm)
  funext k
  unfold Table.confirmation
  by_cases hk : k = n
  · subst hk
    rw [hnone t hghost, hnone]
    intro m
    rw [setEntry_entryAt]
    split
    · exact he m
    · exact hghost m
  · rw [Table.member?, setEntry_entryAt, if_neg fun h => hk h.1.symm, Table.member?]

end

/-! ### The invariants, by block -/

/-- The stores within their capacities and the counts in range; windows, closes and listening belong to their phases and
states; and while the run of a close is in progress no member is confirmed (R84). -/
structure State.orderly (s : State) : Prop where
  store : s.storeInv
  count : s.countInv
  counters : s.counterInv
  phases : s.phaseInv
  closing : ∀ r, s.engine.run = some r → r.work = .close → ∀ n, s.table.confirmation n ≠ some true

/-- Some other member is yet to confirm (R88). -/
def State.awaits (s : State) : Prop := ∃ n, n ≠ s.own ∧ s.table.confirmation n = some false

/-- The invariants of a part out of reset. -/
structure State.upheld (s : State) : Prop where
  released : s.resetLow = false
  read : s.readInv
  orderly : s.orderly
  checking : s.recount.phase = .check → s.awaits

/-- The invariants, in reset and out of it. -/
def State.boundsInv (s : State) : Prop :=
  s.storeInv ∧ s.countInv ∧ s.counterInv ∧ s.resetInv ∧ s.readInv ∧ s.confirmInv

section
variable {s t : State}

theorem closing_iff :
    (∀ n, s.table.confirmation n ≠ some true) ↔ ∀ n m, s.table.member? n = some m → m.confirmed = false := by
  simp [Table.confirmation]

theorem State.boundsInv.upheld (h : s.boundsInv) (hlow : s.resetLow = false) : s.upheld := by
  obtain ⟨hstore, hcount, hcounters, -, hread, hphases, hcheck, hclose⟩ := h
  refine ⟨hlow, hread, ⟨hstore, hcount, hcounters, hphases, fun r hr hwork => ?_⟩, fun hphase => ?_⟩
  · exact closing_iff.2 (hclose r hr hwork)
  · obtain ⟨n, m, hn, hm⟩ := hcheck hphase
    exact ⟨n, hn, confirmation_eq_some.2 ⟨m, hm⟩⟩

theorem State.upheld.boundsInv (h : s.upheld) : s.boundsInv := by
  obtain ⟨hlow, hread, ⟨hstore, hcount, hcounters, hphases, hclose⟩, hcheck⟩ := h
  refine ⟨hstore, hcount, hcounters, fun hreset => ?_, hread, hphases, fun hphase => ?_, fun r hr hwork => ?_⟩
  · rw [hlow] at hreset
    cases hreset
  · obtain ⟨n, hn, hm⟩ := hcheck hphase
    obtain ⟨m, hm⟩ := confirmation_eq_some.1 hm
    exact ⟨n, m, hn, hm⟩
  · exact closing_iff.1 (hclose r hr hwork)

/-! ### What leaves the invariants alone -/

/-- From `s` to `t` nothing changes that the invariants read, but that frames and counters stay in range, and that a run
may end. -/
structure State.keepsOrder (s t : State) : Prop where
  released : t.resetLow = s.resetLow
  loader : t.loader = s.loader
  store : s.storeInv → t.storeInv
  confirmation : t.table.confirmation = s.table.confirmation
  run : ∀ r, t.engine.run = some r → s.engine.run = some r
  counters : s.counterInv → t.counterInv
  course : t.recount.phase = s.recount.phase ∧ t.recount.count = s.recount.count ∧
    t.recount.closeWaiting = s.recount.closeWaiting ∧ t.recount.windowTimer = s.recount.windowTimer
  listening : t.station.state = s.station.state ∧ t.station.listenTimer = s.station.listenTimer ∧
    t.station.listenWaiting = s.station.listenWaiting

/-- `t` has what the invariants read of `s`. -/
@[simp] def State.readsAs (s t : State) : Prop :=
  t.resetLow = s.resetLow ∧ t.loader = s.loader ∧ t.ring.entries = s.ring.entries ∧
  t.table.entries = s.table.entries ∧ t.engine.run = s.engine.run ∧ t.events.counters = s.events.counters ∧
  (t.recount.phase = s.recount.phase ∧ t.recount.count = s.recount.count ∧
    t.recount.closeWaiting = s.recount.closeWaiting ∧ t.recount.windowTimer = s.recount.windowTimer) ∧
  t.station.state = s.station.state ∧ t.station.listenTimer = s.station.listenTimer ∧
    t.station.listenWaiting = s.station.listenWaiting

/-- Members stand in the entries. -/
theorem confirmation_of_entries {x y : Table} (h : x.entries = y.entries) : x.confirmation = y.confirmation := by
  funext n
  simp [Table.confirmation, Table.member?, Table.entryAt, h]

theorem State.readsAs.keepsOrder (h : s.readsAs t) : s.keepsOrder t := by
  obtain ⟨hlow, hloader, hring, htable, hrun, hcounters, hcourse, hlistening⟩ := h
  refine ⟨hlow, hloader, fun hstore => ?_, confirmation_of_entries htable, fun r hr => hrun ▸ hr, fun hc => ?_,
    hcourse, hlistening⟩
  · rwa [State.storeInv, hring, htable]
  · rwa [State.counterInv, hcounters]

theorem State.keepsOrder.orderly (h : s.keepsOrder t) (hs : s.orderly) : t.orderly := by
  obtain ⟨hphase, hcount, hwaiting, htimer⟩ := h.course
  obtain ⟨hstate, hlisten, hends⟩ := h.listening
  obtain ⟨hwindow, hlistening, hruns⟩ := hs.phases
  refine ⟨h.store hs.store, ?_, h.counters hs.counters, ⟨?_, ?_, fun r hr => ?_⟩, fun r hr hwork => ?_⟩
  · rw [State.countInv, hcount, hphase]
    exact hs.count
  · rwa [hphase, hwaiting, htimer]
  · rwa [hphase, hstate, hlisten, hends]
  · rw [hphase, hwaiting, htimer, hstate]
    exact hruns r (h.run r hr)
  · rw [h.confirmation]
    exact hs.closing r (h.run r hr) hwork

theorem State.upheld.of_keeps (hs : s.upheld) (h : s.keepsOrder t) : t.upheld := by
  refine ⟨h.released.trans hs.released, ?_, h.orderly hs.orderly, fun hphase => ?_⟩
  · rw [State.readInv, h.loader]
    exact hs.read
  · rw [State.awaits, State.own, h.loader, h.confirmation]
    exact hs.checking (h.course.1.symm.trans hphase)

theorem State.upheld.of_same (hs : s.upheld) (h : s.readsAs t) : t.upheld := hs.of_keeps h.keepsOrder

section
variable (h : s.upheld)
include h

/-- Other frames in the ring, at most 16. -/
theorem withRing_upheld {x : Ring} (hx : x.entries.length ≤ 16) : (s.withRing x).upheld :=
  h.of_keeps ⟨rfl, rfl, fun ⟨_, htable⟩ => ⟨hx, htable⟩, rfl, fun _ hr => hr, id, ⟨rfl, rfl, rfl, rfl⟩, rfl, rfl,
    rfl⟩

/-- Other entries of the table, with the same members confirmed. -/
theorem withMembers_upheld {x : Table} (hlength : x.entries.length = s.table.entries.length)
    (hx : x.confirmation = s.table.confirmation) : (s.withTable x).upheld :=
  h.of_keeps ⟨rfl, rfl, fun ⟨hring, htable⟩ => ⟨hring, hlength.trans htable⟩, hx, fun _ hr => hr, id,
    ⟨rfl, rfl, rfl, rfl⟩, rfl, rfl, rfl⟩

/-- Other flags, another mask, or other counters in range. -/
theorem withEvents_upheld {x : EventUnit} (hx : x.counters.inRange) : (s.withEvents x).upheld :=
  h.of_keeps ⟨rfl, rfl, id, rfl, fun _ hr => hr, fun _ => hx, ⟨rfl, rfl, rfl, rfl⟩, rfl, rfl, rfl⟩

/-- Timers and waits of the Recount Controller that the phase allows. -/
theorem withRecount_upheld {x : Recount} (hphase : x.phase = s.recount.phase) (hcount : x.count = s.recount.count)
    (hx : (s.withRecount x).phaseInv) : (s.withRecount x).upheld := by
  refine ⟨h.released, h.read, ⟨h.orderly.store, ?_, h.orderly.counters, hx, h.orderly.closing⟩, fun hcheck => ?_⟩
  · rw [State.countInv, withRecount_recount, hcount, hphase]
    exact h.orderly.count
  · exact h.checking (hphase.symm.trans hcheck)

/-- A state and timers of the Station Controller that the phase allows. -/
theorem withStation_upheld {x : Station} (hx : (s.withStation x).phaseInv) : (s.withStation x).upheld :=
  ⟨h.released, h.read, ⟨h.orderly.store, h.orderly.count, h.orderly.counters, hx, h.orderly.closing⟩, h.checking⟩

end

/-! ### A state with nothing under way -/

/-- No window is open, the station does not listen, and no run of a close or of a lone formation is in progress. -/
structure State.calm (s : State) : Prop where
  window : s.recount.closeWaiting = false ∧ s.recount.windowTimer = none
  listening : s.station.listenTimer = none ∧ s.station.listenWaiting = false
  run : ∀ r, s.engine.run = some r → r.work ≠ .close ∧ r.work ≠ .loneFormation

theorem State.calm.orderly (h : s.calm) (hstore : s.storeInv) (hcount : s.countInv) (hcounters : s.counterInv) :
    s.orderly := by
  obtain ⟨⟨hwaiting, htimer⟩, ⟨hlisten, hends⟩, hruns⟩ := h
  refine ⟨hstore, hcount, hcounters, ⟨?_, ?_, fun r hr => ?_⟩, fun r hr hwork => absurd hwork (hruns r hr).1⟩
  · simp [hwaiting, htimer]
  · simp [hlisten, hends]
  · exact ⟨fun hwork => absurd hwork (hruns r hr).1, fun hwork => absurd hwork (hruns r hr).2⟩

/-- In CHECK nothing else is under way. -/
theorem State.phaseInv.calm (h : s.phaseInv) (hphase : s.recount.phase = .check) : s.calm := by
  obtain ⟨hwindow, hlistening, hruns⟩ := h
  have hnowindow : ¬ (s.recount.closeWaiting = true ∨ s.recount.windowTimer ≠ none) := fun hw => by
    simp [hphase] at hwindow
    simp [hwindow] at hw
  have hnolisten : ¬ (s.station.listenTimer ≠ none ∨ s.station.listenWaiting = true) := fun hl => by
    have hnone := (hlistening hl).2
    simp [hphase] at hnone
  refine ⟨by simpa using hnowindow, by simpa using hnolisten, fun r hr => ⟨fun hwork => ?_, fun hwork => ?_⟩⟩
  · have hopen := ((hruns r hr).1 hwork).1
    simp [hphase] at hopen
  · have hnone := ((hruns r hr).2 hwork).2
    simp [hphase] at hnone

/-- Empty stores and the Recount Controller at its reset values, at most a listen timer running in LISTEN. -/
theorem upheld_of_blank (hlow : t.resetLow = false) (hread : t.readInv) (hcounters : t.counterInv)
    (hring : t.ring.entries = []) (htable : t.table.entries.length = 32) (hrun : t.engine.run = none)
    (hrecount : t.recount = Recount.reset)
    (hlisten : t.station.listenTimer ≠ none ∨ t.station.listenWaiting = true → t.station.state = .listen) :
    t.upheld := by
  have hnorun : ∀ r, t.engine.run ≠ some r := by simp [hrun]
  have hphase : t.recount.phase = .none := by rw [hrecount]; rfl
  refine ⟨hlow, hread, ⟨⟨by simp [hring], htable⟩, ?_, hcounters, ⟨fun hw => ?_, fun hl => ⟨hlisten hl, hphase⟩,
      fun r hr => absurd hr (hnorun r)⟩, fun r hr => absurd hr (hnorun r)⟩, by simp [hphase]⟩
  · simp [State.countInv, hrecount, Recount.reset]
  · simp [hrecount, Recount.reset] at hw

end

end Sys2Proof.Machine
end

section
/-! What the operations of the blocks keep of the stores, counts, phases and confirmations: events, Grant Control,
Transmit Queue, Station Controller, Recount Controller. -/

namespace Sys2Proof.Machine

/-! ### Flags and counters (R184, R189) -/

@[simp] theorem raise_counters (s : State) (e : Event) : (s.raise e).events.counters = s.events.counters := rfl

theorem bump_le (n : Nat) : bump n ≤ 65535 := Nat.min_le_left _ _

/-- A counter that rises stays in range. -/
theorem counted_counterInv {s : State} (h : s.counterInv) :
    s.countFrameError.counterInv ∧ s.countStale.counterInv ∧ s.countMismatch.counterInv ∧
    s.countCollision.counterInv ∧ s.countAbandoned.counterInv ∧ s.countRingOverflow.counterInv ∧
    s.countRecount.counterInv := by
  obtain ⟨hframe, hstale, hmismatch, hcollision, habandoned, hoverflow, hrecount⟩ := h
  exact ⟨⟨bump_le _, hstale, hmismatch, hcollision, habandoned, hoverflow, hrecount⟩,
    ⟨hframe, bump_le _, hmismatch, hcollision, habandoned, hoverflow, hrecount⟩,
    ⟨hframe, hstale, bump_le _, hcollision, habandoned, hoverflow, hrecount⟩,
    ⟨hframe, hstale, hmismatch, bump_le _, habandoned, hoverflow, hrecount⟩,
    ⟨hframe, hstale, hmismatch, hcollision, bump_le _, hoverflow, hrecount⟩,
    ⟨hframe, hstale, hmismatch, hcollision, habandoned, bump_le _, hrecount⟩,
    ⟨hframe, hstale, hmismatch, hcollision, habandoned, hoverflow, bump_le _⟩⟩

section
variable (s : State)

@[simp] theorem createLower_counters (c : LowerCause) (n : Nat) :
    (s.createLower c n).events.counters = s.events.counters := by simp [State.createLower]

@[simp] theorem isolateLower_counters : s.isolateLower.events.counters = s.events.counters := by
  unfold State.isolateLower
  dsimp only
  (repeat' split) <;> simp

@[simp] theorem giveNotices_counters (clear : Bool) :
    (s.giveNotices clear).events.counters = s.events.counters := by
  unfold State.giveNotices
  (repeat' split) <;> simp

@[simp] theorem ownClaimNotices_counters (inc a : Nat) :
    (s.ownClaimNotices inc a).events.counters = s.events.counters := by
  unfold State.ownClaimNotices State.ownClaimApplied
  dsimp only
  simp only [lookYield_counters_mask, noticeChanged_frame, satisfyLower_frame]
  (repeat' split) <;> simp

/-! ### The course of a recount (R69) -/

/-- A cause moves neither window nor close. -/
@[simp] theorem giveCause_window (c : Cause) :
    (s.giveCause c).recount.closeWaiting = s.recount.closeWaiting ∧
    (s.giveCause c).recount.windowTimer = s.recount.windowTimer := by
  rcases giveCause_cases s c with h | h | h <;> rw [h] <;> simp

@[simp] theorem recountBack_course : s.recountBack.recount.phase = s.recount.phase ∧
    s.recountBack.recount.count = s.recount.count ∧
    s.recountBack.recount.closeWaiting = s.recount.closeWaiting ∧
    s.recountBack.recount.windowTimer = s.recount.windowTimer := by
  unfold State.recountBack
  split <;> simp

end

section
variable {s : State} (h : s.upheld)
include h

theorem counted_upheld : s.countFrameError.upheld ∧ s.countStale.upheld ∧ s.countMismatch.upheld ∧
    s.countCollision.upheld ∧ s.countAbandoned.upheld ∧ s.countRingOverflow.upheld ∧ s.countRecount.upheld := by
  obtain ⟨hframe, hstale, hmismatch, hcollision, habandoned, hoverflow, hrecount⟩ :=
    counted_counterInv h.orderly.counters
  exact ⟨withEvents_upheld h hframe, withEvents_upheld h hstale, withEvents_upheld h hmismatch,
    withEvents_upheld h hcollision, withEvents_upheld h habandoned, withEvents_upheld h hoverflow,
    withEvents_upheld h hrecount⟩

theorem countStale_upheld : s.countStale.upheld := by
  obtain ⟨-, hstale, -⟩ := counted_upheld h
  exact hstale

/-! ### The look at the end of a command (R154) -/

theorem lookAfter_upheld (b : State) (freed : Bool) : (s.lookAfter b freed).upheld := h.of_same (by simp)

/-! ### Grant Control -/

theorem lowerApplied_upheld (v : Nat) : (s.lowerApplied v).upheld :=
  h.of_same (by simp [State.lowerApplied])

theorem cutOff_upheld : s.cutOff.upheld :=
  h.of_same (by simp [State.cutOff])

theorem giveNotices_upheld (clear : Bool) : (s.giveNotices clear).upheld := h.of_same (by simp)

/-! ### Station Controller -/

omit h in
/-- A state-entry clear empties the stores (R99). -/
theorem enter_upheld_of (hlow : s.resetLow = false) (hread : s.readInv) (hcounters : s.counterInv)
    (x : StationState) : (s.enter x).upheld :=
  upheld_of_blank (by simpa using hlow) (by simpa [State.readInv] using hread)
    (by simpa [State.counterInv] using hcounters) (by simp [Ring.cleared, Ring.reset])
    (by simp [Table.cleared, Table.reset]) (by simp [Engine.reset]) (by simp) (by simp [Station.reset])

theorem enter_upheld (x : StationState) : (s.enter x).upheld :=
  enter_upheld_of h.released h.read h.orderly.counters x

omit h in
theorem enterListen_upheld_of (hlow : s.resetLow = false) (hread : s.readInv) (hcounters : s.counterInv) :
    s.enterListen.upheld :=
  upheld_of_blank (by simpa using hlow) (by simpa [State.readInv] using hread)
    (by simpa [State.counterInv] using hcounters) (by simp [State.enterListen, Ring.cleared, Ring.reset])
    (by simp [State.enterListen, Table.cleared, Table.reset]) (by simp [State.enterListen, Engine.reset])
    (by simp [State.enterListen]) fun _ => by simp

theorem enterListen_upheld : s.enterListen.upheld :=
  enterListen_upheld_of h.released h.read h.orderly.counters

theorem requestIsolated_upheld : s.requestIsolated.upheld := by
  unfold State.requestIsolated State.enterIsolated
  split
  · exact (enter_upheld h .isolated).of_same (by simp)
  · exact h

theorem requestBarred_upheld : s.requestBarred.upheld := by
  unfold State.requestBarred State.enterBarred
  split
  · exact (enter_upheld h .barred).of_same (by simp)
  · exact h

/-! ### Recount Controller -/

theorem giveCause_upheld (c : Cause) : (s.giveCause c).upheld := h.of_same (by simp)

theorem requestRecount_upheld (c : Cause) : (s.requestRecount c).upheld := h.of_same (by simp)

theorem actOnSilence_upheld : s.actOnSilence.upheld := by
  unfold State.actOnSilence
  split
  · exact requestIsolated_upheld h
  · exact giveCause_upheld h _

end

end Sys2Proof.Machine
end

section
/-! What windows, closes, settles and lone formations keep of the stores, counts, phases and confirmations (R25, R69,
R77 to R91, R101 to R104). -/

namespace Sys2Proof.Machine

/-! ### The settle (R88, R89, R2) -/

/-- With a roster member unconfirmed the station does not settle yet. -/
theorem awaits_of_not_allConfirmed {s : State} (h : ¬ s.allConfirmed) : s.awaits := by
  simp only [State.allConfirmed, List.all_eq_true, not_forall] at h
  obtain ⟨n, hn, hnot⟩ := h
  obtain ⟨m, hm⟩ := isMember_eq_true.1 (List.mem_filter.1 hn).2
  simp only [hm, Option.any_some, Bool.or_eq_true, decide_eq_true_eq, not_or, Bool.not_eq_true] at hnot
  exact ⟨n, hnot.1, confirmation_eq_some.2 ⟨m, hm, hnot.2⟩⟩

/-- Phase NONE, the recount count 0. -/
theorem settleCommon_upheld {s : State} (hlow : s.resetLow = false) (hread : s.readInv) (hcalm : s.calm)
    (hstore : s.storeInv) (hcounters : s.counterInv) : s.settleCommon.upheld := by
  have hafter : s.settleCommon.calm :=
    ⟨hcalm.window, hcalm.listening, by simpa [State.settleCommon] using hcalm.run⟩
  refine ⟨by simpa using hlow, by simpa [State.readInv] using hread,
    hafter.orderly (by simpa [State.storeInv] using hstore) ?_ ?_, ?_⟩
  · simp [State.settleCommon, State.countInv]
  · simpa [State.settleCommon, State.counterInv] using hcounters
  · simp [State.settleCommon]

theorem markSilentAtSettle_upheld {s : State} (h : s.upheld) : s.markSilentAtSettle.upheld := by
  unfold State.markSilentAtSettle
  split
  · refine actOnSilence_upheld (withMembers_upheld h ?_ (mapMembers_confirmation fun n m => ?_))
    · exact (mapMembers_length _ _).trans h.orderly.store.2.symm
    · split <;> rfl
  · exact h

theorem settle_upheld {s : State} (hlow : s.resetLow = false) (hread : s.readInv) (h : s.orderly)
    (hphase : s.recount.phase = .check) : s.settle.upheld :=
  markSilentAtSettle_upheld
    ((settleCommon_upheld hlow hread (h.phases.calm hphase) h.store h.counters).of_same (by simp))

/-! ### The window (R77, R78, R91) -/

section
variable {s : State} (h : s.upheld)
include h

/-- The window opens while no run is in progress. -/
theorem windowOpened_upheld (hrun : s.engine.run = none) (target : Half) (hcount : s.recount.count < 4) :
    ((s.withRecount (s.windowItems target)).withStation { s.station with
      beaconTimer := none, listenTimer := none, listenWaiting := false }).upheld := by
  have hnorun : ∀ r, s.engine.run ≠ some r := by simp [hrun]
  refine ⟨h.released, h.read, ⟨h.orderly.store, ⟨hcount, ?_⟩, h.orderly.counters, ⟨fun _ => rfl, ?_,
      fun r hr => absurd hr (hnorun r)⟩, fun r hr => absurd hr (hnorun r)⟩, ?_⟩ <;>
    simp [State.windowItems]

theorem windowEntry_upheld (hrun : s.engine.run = none) (target : Half) : (s.windowEntry target).upheld := by
  by_cases hcount : s.recount.count < 4
  · rw [windowEntry_of_below target hcount]
    have hreported : ∀ u : State, u.upheld → ((u.withdrawForWindow.enqueue (s.reportPayload target)).raise
        .recountStarted).countRecount.upheld := fun u hu => by
      have hraised : ((u.withdrawForWindow.enqueue (s.reportPayload target)).raise .recountStarted).upheld :=
        hu.of_same (by simp)
      obtain ⟨-, -, -, -, -, -, hrecount⟩ := counted_upheld hraised
      exact hrecount
    exact hreported _ (windowOpened_upheld h hrun target hcount)
  · rw [State.windowEntry, if_pos (Nat.not_lt.1 hcount)]
    exact requestIsolated_upheld h

theorem absorb_upheld : s.absorb.upheld := h.of_same (by simp [absorb_recount])

theorem takeRecount_upheld (hrun : s.engine.run = none) (target : Half) (own : Bool) :
    (s.takeRecount target own).upheld := by
  have hjudged : (s.judgeRecount target).upheld := by
    unfold State.judgeRecount
    (repeat' split)
    · exact windowEntry_upheld h hrun _
    · exact absorb_upheld h
    · exact windowEntry_upheld h hrun _
    · exact countStale_upheld h
    · exact windowEntry_upheld h hrun _
    · exact countStale_upheld h
  unfold State.takeRecount
  dsimp only
  split
  · exact hjudged.of_same (by simp)
  · exact hjudged

theorem windowReport_upheld (r : ReportRecord) (target : Half) : (s.windowReport r target).upheld := by
  unfold State.windowReport
  (repeat' split)
  · exact h
  · exact h.of_same (by simp)
  · exact countStale_upheld h
  · exact h.of_same (by simp)
  · exact h
  · exact countStale_upheld h

/-- A window timer runs in WINDOW alone, and in no run of a close. -/
theorem windowEnds_upheld (htimer : s.recount.windowTimer ≠ none) : s.windowEnds.upheld := by
  obtain ⟨hwindow, hlistening, hruns⟩ := h.orderly.phases
  refine withRecount_upheld h rfl rfl ⟨fun _ => hwindow (.inr htimer), hlistening, fun r hr =>
    ⟨fun hwork => ?_, (hruns r hr).2⟩⟩
  obtain ⟨-, -, hstopped⟩ := (hruns r hr).1 hwork
  exact absurd hstopped htimer

/-! ### The close (R83 to R86) -/

omit h in
/-- The members that a close makes are unconfirmed (R84). -/
theorem closedTable_confirmation (s : State) (n : StationNo) : s.closedTable.confirmation n ≠ some true := by
  intro hn
  obtain ⟨m, hm, hconfirmed⟩ := confirmation_eq_some.1 hn
  have hentry : s.closedEntry n = .member m := member?_of_map (x := s.closedTable) rfl hm
  unfold State.closedEntry Entry.afterClose at hentry
  (repeat' split at hentry) <;> cases hentry <;> cases hconfirmed

/-- Another table of 32 entries, out of CHECK. -/
theorem withTable_upheld {x : Table} (hlength : x.entries.length = 32) (hphase : s.recount.phase ≠ .check)
    (hclosing : ∀ r, s.engine.run = some r → r.work = .close → ∀ n, x.confirmation n ≠ some true) :
    (s.withTable x).upheld :=
  ⟨h.released, h.read, ⟨⟨h.orderly.store.1, hlength⟩, h.orderly.count, h.orderly.counters, h.orderly.phases,
    hclosing⟩, fun hcheck => absurd hcheck hphase⟩

/-- The run of a close starts at the end of its window, that of a lone formation in LISTEN. -/
theorem startRun_upheld {work : RunWork} (hclose : work = .close → s.recount.phase = .window ∧
      s.recount.closeWaiting = false ∧ s.recount.windowTimer = none ∧ ∀ n, s.table.confirmation n ≠ some true)
    (hlone : work = .loneFormation → s.station.state = .listen ∧ s.recount.phase = .none) :
    (s.startRun work).upheld := by
  obtain ⟨hwindow, hlistening, -⟩ := h.orderly.phases
  obtain ⟨r, hr, -, hwork, -⟩ := startRun_run s work
  have hrun : ∀ r', (s.startRun work).engine.run = some r' → r'.work = work := fun r' hr' => by
    rw [← Option.some.inj (hr.symm.trans hr'), hwork]
  refine ⟨h.released, h.read, ⟨h.orderly.store, h.orderly.count, h.orderly.counters, ⟨hwindow, hlistening,
    fun r' hr' => ⟨fun hw => ?_, fun hw => hlone ((hrun r' hr').symm.trans hw)⟩⟩, fun r' hr' hw => ?_⟩, h.checking⟩
  · obtain ⟨hphase, hwaiting, htimer, -⟩ := hclose ((hrun r' hr').symm.trans hw)
    exact ⟨hphase, hwaiting, htimer⟩
  · obtain ⟨-, -, -, hunconfirmed⟩ := hclose ((hrun r' hr').symm.trans hw)
    exact hunconfirmed

theorem rebuild_upheld (hphase : s.recount.phase = .window) (hwaiting : s.recount.closeWaiting = false)
    (htimer : s.recount.windowTimer = none) : s.rebuild.upheld := by
  have hfound : (s.withRing { s.ring with lost := false }).upheld := h.of_same (by simp)
  have htable := withTable_upheld hfound (x := s.closedTable) (by simp [State.closedTable, stations])
    (by simp [hphase]) fun _ _ _ => closedTable_confirmation s
  refine startRun_upheld (htable.of_same (by simp [State.giveEpoch])) (fun _ => ⟨?_, ?_, ?_, ?_⟩) (by simp)
  · simpa [State.giveEpoch] using hphase
  · simpa [State.giveEpoch] using hwaiting
  · simpa [State.giveEpoch] using htimer
  · simpa using closedTable_confirmation s

/-- A lone formation starts in LISTEN with no window open (R103). -/
theorem formAlone_upheld (hstate : s.station.state = .listen) (hphase : s.recount.phase = .none) :
    s.formAlone.upheld := by
  have hfound : (s.withRing { s.ring with lost := false }).upheld := h.of_same (by simp)
  have htable := withTable_upheld hfound (x := s.loneTable) (by simp [State.loneTable, stations]) (by simp [hphase])
    fun r hr hwork => by
      have hopen := ((h.orderly.phases.2.2 r (by simpa using hr)).1 hwork).1
      simp [hphase] at hopen
  refine startRun_upheld (htable.of_same (by simp [State.giveEpoch])) (by simp) fun _ => ⟨?_, ?_⟩
  · simpa using hstate
  · simpa [State.giveEpoch] using hphase

theorem decideListening_upheld (hends : s.station.listenWaiting = true) : s.decideListening.upheld := by
  obtain ⟨hwindow, hlistening, hruns⟩ := h.orderly.phases
  obtain ⟨hstate, hphase⟩ := hlistening (.inr hends)
  have hdecided : (s.withStation { s.station with listenWaiting := false }).upheld :=
    withStation_upheld h ⟨hwindow, fun _ => ⟨hstate, hphase⟩, hruns⟩
  unfold State.decideListening
  dsimp only
  split
  · exact giveCause_upheld hdecided _
  · exact formAlone_upheld hdecided hstate hphase

/-- A listen timer that runs out is followed by the end of listening (R103). -/
theorem listenEnds_upheld (hlisten : s.station.listenTimer ≠ none) :
    (s.withStation { s.station with listenTimer := none, listenWaiting := true }).upheld := by
  obtain ⟨hwindow, hlistening, hruns⟩ := h.orderly.phases
  exact withStation_upheld h ⟨hwindow, fun _ => hlistening (.inl hlisten), hruns⟩

theorem beginClose_upheld (hclose : s.recount.closeWaiting = true) : s.beginClose.upheld := by
  obtain ⟨hwindow, hlistening, hruns⟩ := h.orderly.phases
  have hphase := hwindow (.inl hclose)
  have hstopped : (s.withRecount { s.recount with closeWaiting := false, windowTimer := none }).upheld :=
    withRecount_upheld h rfl rfl ⟨fun _ => hphase, hlistening, fun r hr =>
      ⟨fun _ => ⟨hphase, rfl, rfl⟩, (hruns r hr).2⟩⟩
  unfold State.beginClose
  dsimp only
  split
  · exact rebuild_upheld hstopped hphase rfl rfl
  · exact requestIsolated_upheld hstopped

/-! ### The ends of a close and of a lone formation (R86, R104) -/

/-- At the end of a close the phase becomes CHECK, which waits for a member or is over at once (R86, R88). -/
theorem closeEnd_upheld (hcalm : s.calm) : s.closeEnd.upheld := by
  have hframe : s.closeChecking.resetLow = s.resetLow := by
    unfold State.closeChecking State.closeEntered
    split <;> simp
  have hchecking : s.closeChecking.orderly := by
    refine State.calm.orderly ⟨by simpa using hcalm.window, ?_, by simpa using hcalm.run⟩
      (by simpa [State.storeInv] using h.orderly.store) ⟨by simpa using h.orderly.count.1, by simp⟩
      (by simpa [State.counterInv] using h.orderly.counters)
    rw [(closeChecking_values s).2.2.2.2.2.2.2.2.2.1]
    split
    · simp [Station.joined, Station.reset]
    · exact hcalm.listening
  have hheard : s.closeChecking.keepsOrder (s.closeAsked.giveNotices true) := by
    unfold State.closeAsked State.standingLost
    split <;> exact State.readsAs.keepsOrder (by simp)
  have horderly := hheard.orderly hchecking
  have hphase : (s.closeAsked.giveNotices true).recount.phase = .check := by simpa using closeAsked_phase s
  have hlow : (s.closeAsked.giveNotices true).resetLow = false := (hheard.released.trans hframe).trans h.released
  have hread : (s.closeAsked.giveNotices true).readInv := by simpa [State.readInv] using h.read
  rw [closeEnd_eq]
  split
  · exact settle_upheld hlow hread horderly hphase
  · exact ⟨hlow, hread, horderly, fun _ => awaits_of_not_allConfirmed ‹_›⟩

/-- A lone formation settles at its end (R104). -/
theorem loneEnd_upheld (hrun : s.engine.run = none) (hphase : s.recount.phase = .none) : s.loneEnd.upheld := by
  obtain ⟨hwindow, -, -⟩ := h.orderly.phases
  have hclosed : ¬ (s.recount.closeWaiting = true ∨ s.recount.windowTimer ≠ none) := fun hw => by
    have hopen := hwindow hw
    simp [hphase] at hopen
  have hcalm : s.enterMember.calm := by
    refine ⟨by simpa using hclosed, ?_, by simp [hrun]⟩
    simp [Station.joined, Station.reset]
  have hsettled := settleCommon_upheld (s := s.enterMember) (by simpa using h.released)
    (by simpa [State.readInv] using h.read) hcalm (by simpa [State.storeInv] using h.orderly.store)
    (by simpa [State.counterInv] using h.orderly.counters)
  unfold State.loneEnd
  exact hsettled.of_same (by simp)

/-- A run ends as its work asks for (R41, R86, R104). -/
theorem runCompleted_upheld {r : Run} (hr : s.engine.run = some r) :
    (((s.reach r.due).completeRun r).runEnds r.work).upheld := by
  have hdone : ((s.reach r.due).completeRun r).upheld := h.of_keeps
    { released := by simp
      loader := by simp
      store := fun ⟨hring, _⟩ => ⟨by simpa using hring, by simp⟩
      confirmation := funext fun n => by
        simp [Table.confirmation, completeRun_member?, Member.entitled, Function.comp_def]
      run := by simp
      counters := by simp [State.counterInv]
      course := by simp
      listening := by simp }
  obtain ⟨hwindow, hlistening, hruns⟩ := h.orderly.phases
  cases hwork : r.work with
  | demand => exact giveNotices_upheld hdone true
  | clear => exact giveNotices_upheld hdone true
  | close =>
    obtain ⟨hphase, hwaiting, htimer⟩ := (hruns r hr).1 hwork
    have hnolisten : ¬ (s.station.listenTimer ≠ none ∨ s.station.listenWaiting = true) := fun hl => by
      have hnone := (hlistening hl).2
      simp [hphase] at hnone
    exact closeEnd_upheld hdone ⟨by simpa using ⟨hwaiting, htimer⟩, by simpa using hnolisten, by simp⟩
  | loneFormation => exact loneEnd_upheld hdone (by simp) (by simpa using ((hruns r hr).2 hwork).2)

end

end Sys2Proof.Machine
end

section
/-! What the line, the start of the part and the Table Unit keep of the stores, counts, phases and confirmations. -/

namespace Sys2Proof.Machine

section
variable {s : State} (h : s.upheld)
include h

/-! ### Arrival (R131, R132, R156 to R165) -/

theorem watch_upheld (f : Frame) (own : Bool) : (s.watch f own).upheld := by
  unfold State.watch
  split
  · exact requestBarred_upheld h
  · exact h

/-- A dropped frame marks the ring, is counted, and may ask for a recount (R158, R159, R76). -/
theorem drop_upheld (f : Frame) (own : Bool) : (s.drop f own).upheld := by
  have hcounted : s.overflowed.upheld := by
    have hraised : ((s.withRing { s.ring with lost := true }).raise .ringOverflow).upheld := h.of_same (by simp)
    obtain ⟨-, -, -, -, -, hoverflow, -⟩ := counted_upheld hraised
    exact hoverflow
  have hback : (s.overflowed.droppedRecount f own).upheld := by
    unfold State.droppedRecount
    split
    · exact hcounted.of_same (by simp)
    · exact hcounted
  have hlost : (s.overflowed.droppedRecount f own).lostCause.upheld := by
    unfold State.lostCause
    split
    · exact giveCause_upheld hback _
    · exact hback
  exact hlost

/-- A frame joins the ring only where there is a place (R156, R158). -/
theorem offer_upheld (f : Frame) (own : Bool) : (s.offer f own).upheld := by
  unfold State.offer
  (repeat' split)
  · exact h
  · rename_i hplace
    have hjoined : (s.withRing { s.ring with entries := s.ring.entries ++ [⟨f, own⟩] }).upheld :=
      withRing_upheld h (by simpa using hplace)
    have hstored : (s.store f own).upheld := hjoined.of_same (by simp)
    exact watch_upheld hstored f own
  · exact drop_upheld h f own

theorem handOn_upheld (f : Frame) (own : Bool) : (s.handOn f own).upheld := by
  unfold State.handOn
  (repeat' split)
  · exact h
  · exact watch_upheld (h.of_same (by simp [State.honourSlow])) f own
  · exact offer_upheld h f own

theorem reject_upheld : s.reject.upheld := by
  have hraised : (s.raise .frameError).upheld := h.of_same (by simp)
  obtain ⟨hframe, -⟩ := counted_upheld hraised
  unfold State.reject State.setSuspect
  dsimp only
  split <;> exact hframe.of_same (by simp)

/-! ### Own frames (R93, R106, R108, R149 to R151, R163) -/

theorem recountAbandoned_upheld (sl : Slot) : (s.recountAbandoned sl).upheld := by
  unfold State.recountAbandoned
  (repeat' split)
  · exact h
  · refine requestRecount_upheld ?_ _
    exact h.of_same (by simp)
  · exact h.of_same (by simp)

theorem countAbandonment_upheld : s.countAbandonment.upheld := by
  unfold State.countAbandonment
  (repeat' split)
  · exact h.of_same (by simp)
  · exact requestIsolated_upheld h
  · exact h

theorem jamOutcome_upheld (sl : Slot) : (s.jamOutcome sl).upheld := by
  unfold State.jamOutcome
  (repeat' split)
  · exact h.of_same (by simp)
  · exact h.of_same (by simp)
  · have hraised : ((s.withQueue (freeSlot sl.kind s.queue)).raise .abandoned).upheld := h.of_same (by simp)
    obtain ⟨-, -, -, -, habandoned, -⟩ := counted_upheld hraised
    exact countAbandonment_upheld (recountAbandoned_upheld habandoned sl)
  · exact h.of_same (by simp)

theorem reportJam_upheld : s.reportJam.upheld := by
  obtain ⟨-, -, -, hcounted, -⟩ := counted_upheld h
  unfold State.reportJam
  split
  · exact hcounted
  · exact jamOutcome_upheld hcounted _

theorem reportCompletion_upheld (sl : Slot) : (s.reportCompletion sl).upheld := by
  have hbeacon : (if s.takesPart then s.beaconRestarted else s).upheld := by
    split
    · exact h.of_same (by simp [State.beaconRestarted])
    · exact h
  unfold State.reportCompletion
  generalize (if s.takesPart then s.beaconRestarted else s) = u at hbeacon
  split
  · exact h
  · dsimp only
    split
    · unfold State.slowCompleted
      split
      · exact hbeacon.of_same (by simp)
      · exact hbeacon
    · unfold State.leaveCompleted
      split
      · exact enter_upheld hbeacon _
      · exact hbeacon
    · exact hbeacon

theorem complete_upheld (f : Frame) : (s.complete f).upheld := by
  have hidle : (s.lineBecomes .idle .none).upheld := h.of_same (by simp)
  unfold State.complete
  dsimp only
  split
  · exact lookAfter_upheld (handOn_upheld hidle _ _) _ _
  · refine lookAfter_upheld (handOn_upheld (reportCompletion_upheld ?_ _) _ _) _ _
    exact hidle.of_same (by simp)

/-! ### The start of the part (R192 to R198) -/

/-- The own number is sampled once, as RESETN rises (R192). -/
theorem withLoader_upheld {x : Loader} (hown : x.stationNumber = s.loader.stationNumber)
    (hread : (s.withLoader x).readInv) : (s.withLoader x).upheld := by
  refine ⟨h.released, hread, ⟨h.orderly.store, h.orderly.count, h.orderly.counters, h.orderly.phases,
    h.orderly.closing⟩, fun hphase => ?_⟩
  obtain ⟨n, hn, hawaited⟩ := h.checking hphase
  exact ⟨n, by simpa [State.own, hown] using hn, hawaited⟩

/-- In LOADING the station does not listen, and a lone formation is not in progress. -/
theorem enterFault_upheld (hstate : s.station.state = .loading) : s.enterFault.upheld := by
  obtain ⟨hwindow, hlistening, hruns⟩ := h.orderly.phases
  have hfault : (s.withStation { s.station with state := .fault }).upheld := by
    refine withStation_upheld h ⟨hwindow, fun hl => ?_, fun r hr => ⟨(hruns r hr).1, fun hwork => ?_⟩⟩
    · have hlisten := (hlistening hl).1
      simp [hstate] at hlisten
    · have hlisten := ((hruns r hr).2 hwork).1
      simp [hstate] at hlisten
  exact hfault.of_same (t := s.enterFault) (by simp [State.enterFault])

theorem attemptFails_upheld (hr : s.reads) : s.attemptFails.upheld := by
  obtain ⟨hstate, hreading⟩ := hr
  have hattempts : s.loader.attempts ≤ 2 := h.read.2 (by simp [hreading])
  unfold State.attemptFails
  split
  · refine withLoader_upheld h rfl ⟨?_, fun _ => ?_⟩ <;> simp <;> omega
  · refine enterFault_upheld (withLoader_upheld h (by rfl) ⟨?_, fun hoff => absurd rfl hoff⟩) hstate
    exact Nat.succ_le_succ hattempts

omit h in
/-- LOADING ends in LISTEN, and the Line Interface starts (R137, R197). -/
theorem leaveLoading_upheld_of (hlow : s.resetLow = false) (hread : s.readInv) (hcounters : s.counterInv) :
    s.leaveLoading.upheld := by
  unfold State.leaveLoading
  exact (enterListen_upheld_of hlow hread hcounters).of_same (by simp)

theorem judgeRecord_upheld (hr : s.reads) (r : ConfigRecord) : (s.judgeRecord r).upheld := by
  have hheld : (s.holdRecord r).upheld := withLoader_upheld h rfl ⟨h.read.1, fun hoff => absurd rfl hoff⟩
  unfold State.judgeRecord
  split
  · exact leaveLoading_upheld_of hheld.released hheld.read hheld.orderly.counters
  · exact enterFault_upheld hheld hr.1

omit h in
theorem reset_counterInv : State.reset.counterInv := by
  simp [State.counterInv, State.reset, EventUnit.reset, Counters.inRange]

theorem restarted_upheld : s.restarted.upheld := leaveLoading_upheld_of h.released h.read reset_counterInv

/-! ### The Table Unit (R11 to R24) -/

/-- The entries may change but for who is a member and who is confirmed. -/
theorem updateMember_upheld {n : StationNo} {f : Member → Member} (hf : ∀ m, (f m).confirmed = m.confirmed) :
    (s.withTable (s.table.updateMember n f)).upheld :=
  withMembers_upheld h (updateMember_length _ _ _) (updateMember_confirmation hf)

theorem nextTsn_upheld : s.nextTsn.upheld := withMembers_upheld h rfl rfl

theorem recomputeStarved_upheld : s.recomputeStarved.upheld := withMembers_upheld h rfl rfl

/-- What is noted of a frame taken (R2, R12, R13, R70). -/
theorem noted_upheld (f : Frame) : (((s.noteEpochs f).noteSender f.sender).noteHeard f.sender).upheld := by
  have hepochs : (s.noteEpochs f).upheld := by
    unfold State.noteEpochs State.giveEpoch
    split <;> exact h.of_same (by simp)
  have hsender : ((s.noteEpochs f).noteSender f.sender).upheld := by
    unfold State.noteSender
    (repeat' split)
    · exact updateMember_upheld hepochs fun _ => rfl
    · exact hepochs
    · exact hepochs.of_same (by simp)
  unfold State.noteHeard
  split
  · exact hsender.of_same (by simp)
  · exact hsender

theorem applyDemand_upheld (n : StationNo) (v : Nat) : (s.applyDemand n v).upheld := by
  have hset := updateMember_upheld h (n := n)
    (f := fun m => { m with demand := v, grant := min m.grant v }) fun _ => rfl
  exact startRun_upheld (nextTsn_upheld hset) (by simp) (by simp)

theorem applyClaim_upheld (n : StationNo) (a : Nat) : (s.applyClaim n a).upheld := by
  have hset := updateMember_upheld h (n := n) (f := fun m => { m with grant := m.grant + s.increment n a }) fun _ => rfl
  have hcommitted := recomputeStarved_upheld (nextTsn_upheld hset)
  unfold State.applyClaim
  dsimp only
  split
  · exact hcommitted.of_same (by simp)
  · exact giveNotices_upheld hcommitted _

theorem applyRelease_upheld (n : StationNo) (v : Nat) : (s.applyRelease n v).upheld := by
  have hset := updateMember_upheld h (n := n) (f := fun m => { m with grant := min m.grant v }) fun _ => rfl
  exact giveNotices_upheld (recomputeStarved_upheld (nextTsn_upheld hset)) _

/-- A ghost is none of the members (R23). -/
theorem setGhost_upheld {n : StationNo} {g : Ghost} {e : Entry} (hg : s.table.ghost? n = some g)
    (he : ∀ m, e ≠ .member m) : (s.withTable (s.table.setEntry n e)).upheld :=
  withMembers_upheld h (by simp [Table.setEntry]) (setEntry_confirmation hg he)

theorem applyClear_upheld (n : StationNo) : (s.applyClear n).upheld := by
  unfold State.applyClear
  dsimp only
  split
  · rename_i hghost
    obtain ⟨g, hg⟩ := Option.isSome_iff_exists.1 hghost
    have hremoved := nextTsn_upheld (setGhost_upheld h hg (e := .absent) (by simp))
    exact startRun_upheld (hremoved.of_same (by simp)) (by simp) (by simp)
  · exact giveNotices_upheld (recomputeStarved_upheld (nextTsn_upheld h)) _

theorem mismatch_upheld : s.mismatch.upheld := by
  have hdiverged : s.setDiverged.upheld := by
    unfold State.setDiverged
    dsimp only
    split <;> exact h.of_same (by simp)
  obtain ⟨-, -, hmismatch, -⟩ := counted_upheld hdiverged
  exact giveCause_upheld hmismatch _

theorem compareEntry_upheld (n : StationNo) (g d : Half) : (s.compareEntry n g d).upheld := by
  unfold State.compareEntry
  (repeat' split)
  · exact h
  · exact h
  · exact mismatch_upheld h

/-- The last confirmation settles; before it a member is still awaited (R15, R87, R88). -/
theorem compareRoster_upheld (hphase : s.recount.phase = .check) (n : StationNo) (roster : BitVec 32) :
    (s.compareRoster n roster).upheld := by
  have hconfirmed : (s.withTable (s.table.updateMember n fun m => { m with confirmed := true })).orderly := by
    obtain ⟨hwindow, hlistening, hrun⟩ := h.orderly.phases.calm hphase
    exact State.calm.orderly ⟨hwindow, hlistening, hrun⟩
      ⟨h.orderly.store.1, (updateMember_length _ _ _).trans h.orderly.store.2⟩ h.orderly.count h.orderly.counters
  unfold State.compareRoster
  dsimp only
  (repeat' split)
  · exact settle_upheld h.released h.read hconfirmed hphase
  · exact ⟨h.released, h.read, hconfirmed, fun _ => awaits_of_not_allConfirmed ‹_›⟩
  · exact giveCause_upheld h _

theorem passed_upheld (n : StationNo) (b : Body) : (s.passed n b).upheld := by
  cases b with
  | demand v => exact applyDemand_upheld h n _
  | claim a => exact applyClaim_upheld h n _
  | release v => exact applyRelease_upheld h n _
  | clear k => exact applyClear_upheld h k
  | beacon g d roster x =>
    unfold State.passed
    dsimp only
    split
    · exact compareRoster_upheld h ‹_› _ _
    · exact compareEntry_upheld h _ _ _
  | slow => exact h
  | recount => exact h
  | report => exact h

theorem compare_upheld (f : Frame) : (s.compare f).upheld := by
  have hclear : (s.clearSuspect f.sender).upheld := by
    unfold State.clearSuspect
    split
    · exact h
    · exact h.of_same (by simp)
  unfold State.compare
  (repeat' split)
  · exact passed_upheld hclear _ _
  · exact mismatch_upheld h
  · exact giveCause_upheld h _
  · exact countStale_upheld h

theorem judge_upheld (f : Frame) : (s.judge f).upheld := by
  have hknown : ∀ u : State, u.upheld → (if s.table.isMember f.sender = true then s.compare f else u).upheld := by
    intro u hu
    split
    · exact compare_upheld h f
    · exact hu
  unfold State.judge
  cases f.body with
  | report target =>
    dsimp only
    rw [judgeReport_eq]
    cases s.reportCause f.sender target with
    | none => exact countStale_upheld h
    | some c => exact giveCause_upheld h c
  | slow => exact h
  | recount => exact h
  | beacon =>
    refine hknown _ ?_
    rw [strangeBeacon_eq]
    exact giveCause_upheld h _
  | _ => exact hknown _ (countStale_upheld h)

theorem judgeInWindow_upheld (f : Frame) : (s.judgeInWindow f).upheld := by
  unfold State.judgeInWindow
  cases f.body with
  | report target => exact windowReport_upheld h _ target
  | slow => exact h
  | recount => exact h
  | _ => exact countStale_upheld h

/-- A frame is taken while no run is in progress (R10). -/
theorem process_upheld (hrun : s.engine.run = none) (f : Frame) (own : Bool) : (s.process f own).upheld := by
  have hnoted := noted_upheld h f
  unfold State.process
  (repeat' split)
  · exact h
  · exact requestBarred_upheld h
  · exact requestBarred_upheld h
  · unfold State.dispose
    (repeat' split)
    · exact takeRecount_upheld hnoted (by simpa using hrun) _ _
    · exact judgeInWindow_upheld hnoted f
    · exact judge_upheld hnoted f
    · exact hnoted

end

end Sys2Proof.Machine
end

section
/-! What each command of a part out of reset keeps of the stores, counts, phases and confirmations. -/

namespace Sys2Proof.Machine

/-- The invariants of a part out of reset hold of the state that follows, if one does. -/
def upheldAfter (o : Host.Outcome State Fault Refusal) : Prop := ∀ t, o = .next t → t.upheld

theorem upheldAfter_next {t : State} (h : t.upheld) : upheldAfter (.next t) := by
  intro u hu
  obtain rfl := Host.Outcome.next.inj hu
  exact h

section
variable {s t : State} (h : s.upheld)
include h

theorem outOfReset_upheldAfter (ht : t.upheld) : upheldAfter (.next (s.outOfReset t)) := by
  rw [outOfReset_of_released h.released]
  exact upheldAfter_next ht

theorem taken_upheldAfter (ht : t.upheld) : upheldAfter (.next (s.taken t)) := by
  refine upheldAfter_next ?_
  unfold State.taken
  split
  · exact ht
  · exact h

theorem answer_upheld (n : Nat) (x : Status) (d : List Byte) : (s.answer n x d).upheld := h.of_same (by simp)

theorem reach_upheld (x : Time) : (s.reach x).upheld := h.of_same (by simp)

/-- A request that answers, and does nothing that the invariants read. -/
theorem answer_upheldAfter (n : Nat) (x : Status) (d : List Byte) : upheldAfter (.next (s.taken (s.answer n x d))) :=
  taken_upheldAfter h (answer_upheld h n x d)

/-! ### The start of the part -/

theorem readAttemptComplete_upheldAfter (bytes : ConfigRecord) :
    upheldAfter (exec (.readAttemptComplete bytes) s) := by
  refine outOfReset_upheldAfter h ?_
  split
  · exact judgeRecord_upheld h ‹_› bytes
  · exact h

/-- READ_ATTEMPT_FAILED and SCL_HOLD_TIMEOUT do the same (R193). -/
theorem readFails_upheldAfter : upheldAfter (exec .readAttemptFailed s) ∧ upheldAfter (exec .sclHoldTimeout s) := by
  have hfails : (if s.reads then s.attemptFails else s).upheld := by
    split
    · exact attemptFails_upheld h ‹_›
    · exact h
  exact ⟨outOfReset_upheldAfter h hfails, outOfReset_upheldAfter h hfails⟩

theorem readRetryWaitExpiry_upheldAfter : upheldAfter (exec .readRetryWaitExpiry s) := by
  refine outOfReset_upheldAfter h ?_
  split
  · rename_i x hwaiting
    exact withLoader_upheld (reach_upheld h x) rfl ⟨h.read.1, fun _ => h.read.2 (by simp [hwaiting])⟩
  · exact h

/-- With RESETN high its rise has been seen (R192). -/
theorem resetRelease_upheldAfter (straps : BitVec 5) : upheldAfter (exec (.resetRelease straps) s) := by
  have hhigh : ¬ s.resetLow = true := by simp [h.released]
  rw [exec, execResetRelease, if_neg hhigh]
  exact upheldAfter_next h

theorem lineStartupSettled_upheldAfter : upheldAfter (exec .lineStartupSettled s) := by
  refine outOfReset_upheldAfter h ?_
  split
  · exact h.of_same (by simp)
  · exact h

/-! ### The Local Port -/

/-- A transaction's begin and end, and its last data byte, concern the port alone (R170). -/
theorem transactions_upheldAfter : upheldAfter (exec .transactionBegin s) ∧ upheldAfter (exec .transactionEnd s) ∧
    upheldAfter (exec .lastDataByteSent s) := by
  refine ⟨upheldAfter_next ?_, upheldAfter_next ?_, upheldAfter_next ?_⟩
  · unfold State.sclkFirstFall
    (repeat' split) <;> exact h.of_same (by simp)
  · split <;> exact h.of_same (by simp)
  · split
    · exact h.of_same (by simp)
    · exact h

theorem unknownRequest_upheldAfter (code : Byte) : upheldAfter (exec (.unknownRequest code) s) := by
  by_cases hcode : assignedCodes.contains code = true
  · rw [exec, execUnknownRequest, if_pos hcode]
    exact upheldAfter_next h
  · rw [exec, execUnknownRequest, if_neg hcode]
    exact answer_upheldAfter h _ _ _

theorem demandSet_upheld (v : Nat) : (s.demandSet v).upheld := by
  have hset : (s.withGrant { s.grant with demand := v }).upheld := h.of_same (by simp)
  unfold State.demandSet
  dsimp only
  split
  · exact lookAfter_upheld (lowerApplied_upheld hset v) _ _
  · exact lookAfter_upheld hset _ _

theorem setDemand_upheldAfter (v : Half) : upheldAfter (exec (.setDemand v) s) := by
  refine taken_upheldAfter h ?_
  (repeat' split)
  · exact answer_upheld h _ _ _
  · exact answer_upheld h _ _ _
  · exact answer_upheld (demandSet_upheld h _) _ _ _

theorem confirm_upheldAfter (v : Half) : upheldAfter (exec (.confirm v) s) := by
  refine taken_upheldAfter h ?_
  (repeat' split)
  · exact answer_upheld h _ _ _
  · exact answer_upheld (lookAfter_upheld (lowerApplied_upheld h _) _ _) _ _ _
  · exact answer_upheld h _ _ _

theorem clearCutoff_upheldAfter : upheldAfter (exec .clearCutoff s) := by
  have hcleared : (s.withGrant { s.grant with cutoff := false }).upheld := h.of_same (by simp)
  refine taken_upheldAfter h ?_
  (repeat' split)
  · exact answer_upheld h _ _ _
  · exact answer_upheld (lookAfter_upheld hcleared _ _) _ _ _
  · exact answer_upheld h _ _ _

/-- A snapshot is taken of the table, and is no part of its entries (R28). -/
theorem takeSnapshotNow_upheld : s.takeSnapshotNow.upheld := withMembers_upheld h rfl rfl

theorem takeSnapshot_upheldAfter : upheldAfter (exec .takeSnapshot s) := by
  have hpending : (s.withTable { s.table with snapPending := true }).upheld :=
    withMembers_upheld h rfl rfl
  refine taken_upheldAfter h ?_
  (repeat' split)
  · exact answer_upheld h _ _ _
  · exact answer_upheld h _ _ _
  · exact answer_upheld (takeSnapshotNow_upheld h) _ _ _
  · exact answer_upheld hpending _ _ _

theorem readSummary_upheldAfter : upheldAfter (exec .readSummary s) := by
  refine taken_upheldAfter h ?_
  split <;> exact answer_upheld h _ _ _

theorem readEntry_upheldAfter (n : Byte) : upheldAfter (exec (.readEntry n) s) := by
  refine taken_upheldAfter h ?_
  (repeat' split) <;> exact answer_upheld h _ _ _

theorem readConfig_upheldAfter : upheldAfter (exec .readConfig s) := by
  refine taken_upheldAfter h ?_
  split <;> exact answer_upheld h _ _ _

theorem clearEvents_upheldAfter (mask : Half) : upheldAfter (exec (.clearEvents mask) s) := by
  refine taken_upheldAfter h ?_
  split
  · exact answer_upheld h _ _ _
  · exact answer_upheld (h.of_same (by simp)) _ _ _

theorem setMask_upheldAfter (mask : Half) : upheldAfter (exec (.setMask mask) s) := by
  refine taken_upheldAfter h ?_
  split
  · exact answer_upheld h _ _ _
  · exact answer_upheld (h.of_same (by simp)) _ _ _

theorem clearCounters_upheldAfter : upheldAfter (exec .clearCounters s) :=
  taken_upheldAfter h (answer_upheld (withEvents_upheld h (by simp [Counters.inRange])) _ _ _)

theorem leave_upheldAfter : upheldAfter (exec .leave s) := by
  refine taken_upheldAfter h ?_
  (repeat' split)
  · exact answer_upheld h _ _ _
  · exact answer_upheld h _ _ _
  · exact answer_upheld (lookAfter_upheld (requestRecount_upheld h .leave) _ _) _ _ _
  · exact answer_upheld h _ _ _

theorem join_upheldAfter : upheldAfter (exec .join s) := by
  refine taken_upheldAfter h ?_
  split
  · exact answer_upheld (enterListen_upheld h) _ _ _
  · exact answer_upheld h _ _ _

theorem restart_upheldAfter : upheldAfter (exec .restart s) := by
  refine taken_upheldAfter h ?_
  split
  · exact answer_upheld (restarted_upheld h) _ _ _
  · exact answer_upheld h _ _ _

/-! ### The share line -/

/-- An activity that begins changes the line and the backoff counting alone (R138, R143). -/
theorem ensureActivity_upheld : s.ensureActivity.upheld := by
  unfold State.ensureActivity
  split
  · exact h.of_same (by simp)
  · exact h

theorem lineActivityStart_upheldAfter : upheldAfter (exec .lineActivityStart s) := by
  refine outOfReset_upheldAfter h ?_
  (repeat' split)
  · exact h.of_same (by simp)
  · exact h.of_same (by simp)
  · exact h

theorem frameReceived_upheldAfter (cells : List Cell) : upheldAfter (exec (.frameReceived cells) s) := by
  have hends : (s.activityEnds cells.length).upheld := h.of_same (by simp)
  refine outOfReset_upheldAfter h ?_
  (repeat' split)
  · exact lookAfter_upheld (reject_upheld hends) _ _
  · exact lookAfter_upheld (handOn_upheld hends _ _) _ _
  · exact h

theorem slotStart_upheldAfter : upheldAfter (exec .slotStart s) := by
  refine outOfReset_upheldAfter h ?_
  (repeat' split)
  · exact h
  · exact h.of_same (by simp)
  · exact h

theorem backoffSlotExpiry_upheldAfter (k : Kind) : upheldAfter (exec (.backoffSlotExpiry k) s) := by
  refine outOfReset_upheldAfter h ?_
  (repeat' split)
  · exact h
  · exact h.of_same (by simp)
  · exact h

theorem readBackMismatch_upheldAfter : upheldAfter (exec .readBackMismatch s) := by
  refine outOfReset_upheldAfter h ?_
  split
  · exact h.of_same (by simp)
  · exact h

theorem lineStateJam_upheldAfter : upheldAfter (exec .lineStateJam s) := by
  refine outOfReset_upheldAfter h ?_
  (repeat' split)
  · exact (ensureActivity_upheld h).of_same (by simp)
  · exact h.of_same (by simp)
  · exact h.of_same (by simp)
  · exact h

theorem jamDriveEnd_upheldAfter : upheldAfter (exec .jamDriveEnd s) := by
  refine outOfReset_upheldAfter h ?_
  split
  · exact h.of_same (by simp)
  · exact h

theorem endOfJam_upheldAfter : upheldAfter (exec .endOfJam s) := by
  have hidle : (s.lineBecomes .idle .none).upheld := h.of_same (by simp)
  refine outOfReset_upheldAfter h ?_
  (repeat' split)
  · exact lookAfter_upheld (reportJam_upheld hidle) _ _
  · exact hidle
  · exact h
  · exact h

theorem ownFrameCompletion_upheldAfter : upheldAfter (exec .ownFrameCompletion s) := by
  refine outOfReset_upheldAfter h ?_
  split
  · exact complete_upheld (reach_upheld h _) _
  · exact h

/-! ### The Table Unit -/

/-- A frame leaves the ring and is worked on, while no run is in progress (R10, R157). -/
theorem takeFrame_upheldAfter : upheldAfter (exec .takeFrame s) := by
  refine outOfReset_upheldAfter h ?_
  split
  · rename_i hmay
    split
    · exact h
    · rename_i e rest hring
      have hlength : (e :: rest).length ≤ 16 := hring ▸ h.orderly.store.1
      have htaken : (s.withRing { s.ring with entries := rest }).upheld :=
        withRing_upheld h (Nat.le_of_succ_le hlength)
      exact lookAfter_upheld (process_upheld htaken hmay.1 _ _) _ _
  · exact h

theorem engineRunComplete_upheldAfter : upheldAfter (exec .engineRunComplete s) := by
  refine outOfReset_upheldAfter h ?_
  split
  · exact h
  · exact lookAfter_upheld (runCompleted_upheld h ‹_›) _ _

theorem closeBegin_upheldAfter : upheldAfter (exec .closeBegin s) := by
  refine outOfReset_upheldAfter h ?_
  split
  · rename_i hbegins
    exact beginClose_upheld h hbegins.1
  · exact h

theorem endOfListening_upheldAfter : upheldAfter (exec .endOfListening s) := by
  refine outOfReset_upheldAfter h ?_
  split
  · rename_i hends
    exact decideListening_upheld h hends.1
  · exact h

theorem snapshotTaken_upheldAfter : upheldAfter (exec .snapshotTaken s) := by
  refine outOfReset_upheldAfter h ?_
  split
  · exact takeSnapshotNow_upheld h
  · exact h

/-! ### Timers -/

theorem windowTimerExpiry_upheldAfter : upheldAfter (exec .windowTimerExpiry s) := by
  refine outOfReset_upheldAfter h ?_
  split
  · exact h
  · rename_i x htimer
    exact windowEnds_upheld (reach_upheld h x) (by simp [htimer])

theorem checkTimerExpiry_upheldAfter : upheldAfter (exec .checkTimerExpiry s) := by
  refine outOfReset_upheldAfter h ?_
  split
  · exact h
  · rename_i x _
    have hstopped : ((s.reach x).withRecount { s.recount with checkTimer := none }).upheld := h.of_same (by simp)
    exact lookAfter_upheld (giveCause_upheld hstopped _) _ _

theorem guardEnds_upheld : s.guardEnds.upheld := by
  have hover : s.guardOver.upheld := h.of_same (by simp [State.guardOver])
  rw [guardEnds_eq]
  cases s.standingCause with
  | none => exact hover
  | some c => exact requestRecount_upheld hover c

theorem guardTimerExpiry_upheldAfter : upheldAfter (exec .guardTimerExpiry s) := by
  refine outOfReset_upheldAfter h ?_
  split
  · exact h
  · exact lookAfter_upheld (guardEnds_upheld (reach_upheld h _)) _ _

theorem listenTimerExpiry_upheldAfter : upheldAfter (exec .listenTimerExpiry s) := by
  refine outOfReset_upheldAfter h ?_
  split
  · exact h
  · rename_i x hlisten
    exact listenEnds_upheld (reach_upheld h x) (by simp [hlisten])

theorem beaconEnds_upheld : s.beaconEnds.upheld := h.of_same (by simp [beaconEnds_values])

theorem beaconTimerExpiry_upheldAfter : upheldAfter (exec .beaconTimerExpiry s) := by
  refine outOfReset_upheldAfter h ?_
  split
  · exact h
  · exact beaconEnds_upheld (reach_upheld h _)

theorem memberSilent_upheldAfter (n : StationNo) : upheldAfter (exec (.memberSilent n) s) := by
  refine outOfReset_upheldAfter h ?_
  (repeat' split)
  · exact h
  · rename_i m _ _
    have hmarked := updateMember_upheld (reach_upheld h (s.silentMoment m)) (n := n)
      (f := fun m => { m with silent := true }) fun _ => rfl
    exact lookAfter_upheld (actOnSilence_upheld hmarked) _ _
  · exact h

theorem isolationHoldExpiry_upheldAfter : upheldAfter (exec .isolationHoldExpiry s) := by
  refine outOfReset_upheldAfter h ?_
  split
  · exact h
  · exact enterListen_upheld (reach_upheld h _)

theorem ghostTimerExpiry_upheldAfter (n : StationNo) : upheldAfter (exec (.ghostTimerExpiry n) s) := by
  refine outOfReset_upheldAfter h ?_
  (repeat' split)
  · exact h
  · exact h
  · rename_i hghost _ x _
    exact lookAfter_upheld (setGhost_upheld (reach_upheld h x) hghost (by simp)) _ _

theorem lowerRequestDeadline_upheldAfter : upheldAfter (exec .lowerRequestDeadline s) := by
  refine outOfReset_upheldAfter h ?_
  split
  · exact h
  · exact lookAfter_upheld (cutOff_upheld (reach_upheld h _)) _ _

theorem slowEnds_upheld : s.slowEnds.upheld := h.of_same (by simp)

theorem ownSlowTimerExpiry_upheldAfter : upheldAfter (exec .ownSlowTimerExpiry s) := by
  refine outOfReset_upheldAfter h ?_
  split
  · exact h
  · exact lookAfter_upheld (slowEnds_upheld (reach_upheld h _)) _ _

theorem deferralExpiry_upheldAfter : upheldAfter (exec .deferralExpiry s) := by
  refine outOfReset_upheldAfter h ?_
  split
  · exact h
  · exact h.of_same (by simp)

/-! ### Every command but POWER_RESET -/

theorem exec_upheldAfter {i : Instr} (hi : i ≠ .powerReset) : upheldAfter (exec i s) := by
  cases i with
  | powerReset => exact absurd rfl hi
  | resetRelease straps => exact resetRelease_upheldAfter h straps
  | readAttemptComplete bytes => exact readAttemptComplete_upheldAfter h bytes
  | readAttemptFailed => exact (readFails_upheldAfter h).1
  | sclHoldTimeout => exact (readFails_upheldAfter h).2
  | readRetryWaitExpiry => exact readRetryWaitExpiry_upheldAfter h
  | lineStartupSettled => exact lineStartupSettled_upheldAfter h
  | transactionBegin => exact (transactions_upheldAfter h).1
  | transactionEnd => exact (transactions_upheldAfter h).2.1
  | unknownRequest code => exact unknownRequest_upheldAfter h code
  | status => exact answer_upheldAfter h _ _ _
  | setDemand v => exact setDemand_upheldAfter h v
  | confirm v => exact confirm_upheldAfter h v
  | clearCutoff => exact clearCutoff_upheldAfter h
  | takeSnapshot => exact takeSnapshot_upheldAfter h
  | readSummary => exact readSummary_upheldAfter h
  | readEntry n => exact readEntry_upheldAfter h n
  | readEvents => exact answer_upheldAfter h _ _ _
  | clearEvents mask => exact clearEvents_upheldAfter h mask
  | setMask mask => exact setMask_upheldAfter h mask
  | readCounters => exact answer_upheldAfter h _ _ _
  | clearCounters => exact clearCounters_upheldAfter h
  | leave => exact leave_upheldAfter h
  | join => exact join_upheldAfter h
  | restart => exact restart_upheldAfter h
  | readConfig => exact readConfig_upheldAfter h
  | lineActivityStart => exact lineActivityStart_upheldAfter h
  | frameReceived cells => exact frameReceived_upheldAfter h cells
  | takeFrame => exact takeFrame_upheldAfter h
  | engineRunComplete => exact engineRunComplete_upheldAfter h
  | windowTimerExpiry => exact windowTimerExpiry_upheldAfter h
  | closeBegin => exact closeBegin_upheldAfter h
  | listenTimerExpiry => exact listenTimerExpiry_upheldAfter h
  | endOfListening => exact endOfListening_upheldAfter h
  | snapshotTaken => exact snapshotTaken_upheldAfter h
  | checkTimerExpiry => exact checkTimerExpiry_upheldAfter h
  | guardTimerExpiry => exact guardTimerExpiry_upheldAfter h
  | beaconTimerExpiry => exact beaconTimerExpiry_upheldAfter h
  | memberSilent n => exact memberSilent_upheldAfter h n
  | isolationHoldExpiry => exact isolationHoldExpiry_upheldAfter h
  | ghostTimerExpiry n => exact ghostTimerExpiry_upheldAfter h n
  | lowerRequestDeadline => exact lowerRequestDeadline_upheldAfter h
  | ownSlowTimerExpiry => exact ownSlowTimerExpiry_upheldAfter h
  | deferralExpiry => exact deferralExpiry_upheldAfter h
  | slotStart => exact slotStart_upheldAfter h
  | backoffSlotExpiry k => exact backoffSlotExpiry_upheldAfter h k
  | readBackMismatch => exact readBackMismatch_upheldAfter h
  | endOfJam => exact endOfJam_upheldAfter h
  | ownFrameCompletion => exact ownFrameCompletion_upheldAfter h
  | lineStateJam => exact lineStateJam_upheldAfter h
  | jamDriveEnd => exact jamDriveEnd_upheldAfter h
  | lastDataByteSent => exact (transactions_upheldAfter h).2.2

end

end Sys2Proof.Machine
end

section
/-! The stores, counts and phases at every step: POWER reset, RESETN low, and the step itself (R191, R192). -/

namespace Sys2Proof.Machine

/-- A part in reset, every block at its POWER reset values, is within all bounds. -/
theorem boundsInv_of_reset {s : State} (hlow : s.resetLow = true) (hreset : s.resetInv) : s.boundsInv := by
  have hblocks := hreset hlow
  rw [hblocks]
  refine ⟨?_, ?_, reset_counterInv, fun _ => rfl, ?_, ?_⟩
  · simp [State.storeInv, State.reset, Ring.reset, Table.reset]
  · simp [State.countInv, State.reset, Recount.reset]
  · simp [State.readInv, State.reset, Loader.reset]
  · simp [State.confirmInv, State.phaseInv, State.reset, Recount.reset, Station.reset, Engine.reset]

/-- POWER_RESET puts every block at its POWER reset values (R191). -/
theorem powerReset_boundsInv (s : State) : s.powerReset.boundsInv := boundsInv_of_reset rfl fun _ => rfl

section
variable {s t : State}

/-- Time, the level of CSN and the waiting commands are no block's. -/
theorem State.boundsInv.of_same (h : s.boundsInv)
    (hsame : t = { s with now := t.now, csnHigh := t.csnHigh, pending := t.pending }) : t.boundsInv := by
  by_cases hlow : s.resetLow = true
  · obtain ⟨-, -, -, hreset, -⟩ := h
    refine boundsInv_of_reset (by rw [hsame]; exact hlow) fun _ => ?_
    rw [hreset hlow] at hsame
    exact hsame
  · rw [hsame]
    exact ((h.upheld (Bool.eq_false_iff.2 hlow)).of_same (by simp)).boundsInv

/-! ### With RESETN low (R191, R192) -/

theorem outOfReset_of_low (hlow : s.resetLow = true) (t : State) : s.outOfReset t = s := if_pos hlow

theorem taken_of_low (hlow : s.resetLow = true) (t : State) : s.taken t = s :=
  if_neg fun ⟨_, hhigh⟩ => by simp [hhigh] at hlow

/-- At its rise the straps are sampled and the read begins, its attempts still at 0 (R192, R193). -/
theorem resetRelease_boundsInv (hlow : s.resetLow = true) (hreset : s.resetInv) (straps : BitVec 5) {t : State}
    (ht : exec (.resetRelease straps) s = .next t) : t.boundsInv := by
  rw [exec, execResetRelease, if_pos hlow, hreset hlow] at ht
  obtain rfl := Host.Outcome.next.inj ht
  refine (upheld_of_blank rfl ⟨Nat.zero_le _, fun _ => Nat.zero_le _⟩ ?_ rfl ?_ rfl rfl ?_).boundsInv
  · exact reset_counterInv
  · simp [State.reset, Table.reset]
  · simp [State.reset, Station.reset]

/-- With RESETN low a command other than POWER_RESET and RESET_RELEASE can move the level of CSN, and nothing else. -/
theorem exec_of_low (hlow : s.resetLow = true) {i : Instr} (hpower : i ≠ .powerReset)
    (hrelease : ∀ straps, i ≠ .resetRelease straps) : ∃ b, exec i s = .next { s with csnHigh := b } := by
  have hheld : ∀ u, ∃ b, Host.Outcome.next (s.outOfReset u) = (.next { s with csnHigh := b } :
      Host.Outcome State Fault Refusal) := fun u => ⟨s.csnHigh, congrArg _ (outOfReset_of_low hlow u)⟩
  have hnone : ∀ u, ∃ b, Host.Outcome.next (s.taken u) = (.next { s with csnHigh := b } :
      Host.Outcome State Fault Refusal) := fun u => ⟨s.csnHigh, congrArg _ (taken_of_low hlow u)⟩
  cases i with
  | powerReset => exact absurd rfl hpower
  | resetRelease straps => exact absurd rfl (hrelease straps)
  | transactionBegin => exact ⟨false, by simp [exec, execTransactionBegin, hlow]⟩
  | transactionEnd => exact ⟨true, by simp [exec, execTransactionEnd, hlow]⟩
  | unknownRequest code => exact ⟨s.csnHigh, by simp [exec, execUnknownRequest, taken_of_low hlow]⟩
  | lastDataByteSent => exact ⟨s.csnHigh, congrArg _ (if_neg fun hsends => by simp [hlow] at hsends)⟩
  | status | setDemand | confirm | clearCutoff | takeSnapshot | readSummary | readEntry | readEvents | clearEvents
  | setMask | readCounters | clearCounters | leave | join | restart | readConfig => exact hnone _
  | _ => exact hheld _

/-! ### The step -/

theorem exec_boundsInv (h : s.boundsInv) {i : Instr} (ht : exec i s = .next t) : t.boundsInv := by
  by_cases hpower : i = .powerReset
  · subst hpower
    obtain rfl := Host.Outcome.next.inj ht
    exact powerReset_boundsInv s
  · by_cases hlow : s.resetLow = true
    · by_cases hrelease : ∃ straps, i = .resetRelease straps
      · obtain ⟨straps, rfl⟩ := hrelease
        obtain ⟨-, -, -, hreset, -⟩ := h
        exact resetRelease_boundsInv hlow hreset straps ht
      · obtain ⟨b, hb⟩ := exec_of_low hlow hpower (not_exists.1 hrelease)
        obtain rfl := Host.Outcome.next.inj (ht.symm.trans hb)
        exact h.of_same rfl
    · exact (exec_upheldAfter (h.upheld (Bool.eq_false_iff.2 hlow)) hpower t ht).boundsInv

/-- A step with no command waiting moves the time or the waiting commands alone. -/
theorem idle_boundsInv (h : s.boundsInv) : s.idle.boundsInv := by
  unfold State.idle
  split <;> exact h.of_same rfl

theorem step_boundsInv (h : s.boundsInv) (ht : step s = .next t) : t.boundsInv := by
  unfold step at ht
  split at ht
  · obtain rfl := Host.Outcome.next.inj ht
    exact idle_boundsInv h
  · rename_i c rest _
    exact exec_boundsInv (s := s.withPending rest) (h.of_same rfl) ht

end

/-- Settles O59: out of reset each command keeps the invariants that `State.upheld` gathers, POWER_RESET and
RESET_RELEASE establish them anew, and with RESETN low no other command reaches a block. -/
theorem stepsKeepTheStoresAndCounts : Obligations.StepsKeepTheStoresAndCounts :=
  fun _ _ hstore hcount hcounters hreset hread hconfirm hstep =>
    step_boundsInv ⟨hstore, hcount, hcounters, hreset, hread, hconfirm⟩ hstep

end Sys2Proof.Machine
end
